-- ==== Sys2Proof/Word.lean ====
section
/-! DEFINITION. The words of the CSC-32's ports and of its time base. -/

namespace Sys2Proof

/-- A byte on a tenant link or on the site management port (R187). -/
abbrev Byte := BitVec 8

/-- A value of the time base: the count of ticks, 0 to 2^48 − 1, which passes from its last value to 0 (R129). -/
abbrev Time := BitVec 48

/-- The index of a carrier in the carrier table (R1). -/
abbrev Site := Fin 32

/-- One of the four amplifier supply rails (R105). -/
abbrev RailId := Fin 4

/-- One of the four slices of eight site numbers (R9). -/
abbrev Slice := Fin 4

/-- All site numbers in ascending order, the order in which the rules take carriers. -/
def allSites : List Site :=
  [0, 1, 2, 3, 4, 5, 6, 7, 8, 9, 10, 11, 12, 13, 14, 15,
   16, 17, 18, 19, 20, 21, 22, 23, 24, 25, 26, 27, 28, 29, 30, 31]

/-- All rails in ascending order. -/
def allRails : List RailId := [0, 1, 2, 3]

end Sys2Proof
end

