-- ==== Sys2Proof/Syntax.lean ====
section
/-! DEFINITION. The commands of the CSC-32: one constructor for each row of spec/opcode_table.json. -/

namespace Sys2Proof

/-- The three operators sharing the radio unit. -/
inductive Tenant where
  | a | b | c
deriving DecidableEq, Repr

/-- The two conditioned input lines (R134). -/
inductive InputLine where
  | holdIn | sourceIn
deriving DecidableEq, Repr

/-- A command. A field of a request is the number its bytes carry, before any check (R187 to R192); an operand of an
event of the part itself is what the event names. In a tenant request `unused` is the number formed by the body bytes
the kind does not use (R168 step 3, log entry 28). -/
inductive Instr where
  -- reset, with the level of ADDR[2:0] at the rise of RESET_N
  | powerOnReset (addr : Nat)
  -- site requests (R182)
  | setCarrier (n owner role rail count anchor0 anchor1 anchor2 : Nat) (trim : Int)
  | clearCarrier (n : Nat)
  | enable (n : Nat)
  | disable (n : Nat)
  | pin (n : Nat)
  | unpin (n : Nat)
  | setSlices (tenant p0 p1 : Nat)
  | setRail (rail idlePower breakEven settleFull settleReduced : Nat)
  | setBias (rail cls : Nat)
  | clearFaultCarrier (n : Nat)
  | clearFaultRail (rail : Nat)
  | setWindow (window enabled start stop : Nat)
  | setTime (tod : Nat)
  | setDivider (divider : Nat)
  | setInputs (holdPolarity sourcePolarity debounce : Nat)
  | setBankParam (bank param value : Nat)
  | selectBank (mode : Nat)
  | standDown
  | resume
  | setPort (tenant enable linkWindow drainSlots : Nat)
  | ackAlert (count : Nat) (slots : List Nat)
  | clearTally (rail : Nat)
  | readCarrier (n : Nat)
  | readRail (rail : Nat)
  | readTenant (tenant : Nat)
  | readSite
  | readTally
  | malformedSiteRecord (bytes : List Byte)
  -- wires
  | busTimeout
  | transferStart (t : Tenant)
  | stallTimeout (t : Tenant)
  | frameEnd (t : Tenant)
  -- tenant requests, each as taken from the FIFO of the port of t (R168)
  | load (t : Tenant) (num util users unused : Nat)
  | accept (t : Tenant) (num token unused : Nat)
  | decline (t : Tenant) (num token unused : Nat)
  | drained (t : Tenant) (num token unused : Nat)
  | wake (t : Tenant) (num unused : Nat)
  | keep (t : Tenant) (num unused : Nat)
  | unkeep (t : Tenant) (num unused : Nat)
  | fault (t : Tenant) (num unused : Nat)
  | clear (t : Tenant) (num unused : Nat)
  | query (t : Tenant) (num unused : Nat)
  | unknownTenantRequest (t : Tenant) (kind num : Nat)
  -- the part's own timers
  | linkWindowExpiry (t : Tenant)
  | staleTimerExpiry (n : Site)
  | answerTimerExpiry (n : Site)
  | drainTimerExpiry (n : Site)
  | dwellElapses (n : Site)
  | minAwakePasses (n : Site)
  | surgeHoldoffEnds (n : Site)
  | graceExpiry (r : RailId)
  | settleExpiry (r : RailId) (powerGood : Bool)
  | retryWaitExpiry (r : RailId)
  | secondsEvent
  -- lines
  | inputLevelChange (line : InputLine) (level : Bool)
  | debounceExpiry (line : InputLine)
  | powerGoodFall (r : RailId)
  | tclkRisingEdge (t : Tenant) (tdin : Bool)
  | i2cStartCondition (address : Nat) (read : Bool)
  | i2cStopCondition
  | i2cDataByte (byte : Byte) (masterAck : Bool)
  | sclEdge (rising : Bool)
deriving DecidableEq, Repr

end Sys2Proof
end

