-- ==== Sys2Proof/Config.lean ====
section
/-! DEFINITION. What the manual leaves to the outside: constants without a body, of which nothing can be proved. -/

namespace Sys2Proof

/-- FREE VALUE (log entry 5). The level of a RAIL_PG line that nobody has told the model, at the k-th time it has to be
read: in an idle step's sample (R117) or in a READ_RAIL (R128). The manual says nothing of the supply behind the line. -/
opaque Config.railPowerGood : Nat → Bool

/-- FREE VALUE (log entry 17). The level of a tenant's TDOUT between two transfers of its enabled port, at a moment: the
manual fixes the line from the fall of select on (R159) and while the port is DISABLED or its transfer abandoned (R160,
R161). -/
opaque Config.tdoutBetweenTransfers : Tenant → Time → Bool

/-- The 2 s of the retry wait, in ticks (R118). -/
def Config.retryWait : Nat := 2000

/-- The 5 ms of the stall timer, in ticks (R161). -/
def Config.stallLength : Nat := 5

/-- The 25 ms of the bus timer, in ticks (R181). -/
def Config.busTimeout : Nat := 25

/-- Replies a notice queue and its in-flight latch hold together before a request waits (R168). -/
def Config.replySlots : Nat := 8

/-- Requests a request FIFO holds (R165). -/
def Config.fifoDepth : Nat := 2

/-- Bytes the record buffer holds (R178). -/
def Config.recordBytes : Nat := 32

/-- The value at which the tallies of a rail stay (R126). -/
def Config.tallyMax : Nat := 4294967295

/-- The value at which a frame error count stays (R162). -/
def Config.frameErrorMax : Nat := 65535

end Sys2Proof
end

