-- ==== Sys2Proof/Decode.lean ====
section
/-! DEFINITION. From bytes to commands: the site request records (R192), the requests of tenant frames (R189), and the
table's words (none of whose rows gives bits). Total: what names no request becomes the malformed record or the unknown
request. Then the record encoder of R192. -/

namespace Sys2Proof

/-- The command that a word spells by the table's bits: no row of spec/opcode_table.json gives bits. -/
def decodeTableWord (_nbits _w : Nat) : Option Instr := none

/-- A big-endian field of two bytes (R187). -/
def be2 (x y : Byte) : Nat := x.toNat * 256 + y.toNat

/-- A big-endian field of three bytes (R187). -/
def be3 (x y z : Byte) : Nat := (x.toNat * 256 + y.toNat) * 256 + z.toNat

/-- The bytes of a number in a big-endian field of n bytes (R187). -/
def beBytes : Nat → Nat → List Byte
  | 0, _ => []
  | n + 1, v => BitVec.ofNat 8 (v / 256 ^ n) :: beBytes n v

/-- The field length L that each site request kind requires (R192); none for a code that names no request. -/
def recordLength (kind : Nat) : Option Nat :=
  match kind with
  | 0x01 => some 9
  | 0x02 | 0x03 | 0x04 | 0x05 | 0x06 => some 1
  | 0x07 => some 3
  | 0x10 => some 9
  | 0x11 => some 2
  | 0x12 => some 2
  | 0x20 => some 4
  | 0x21 => some 3
  | 0x22 => some 2
  | 0x23 => some 3
  | 0x24 => some 4
  | 0x25 => some 1
  | 0x26 | 0x27 => some 0
  | 0x30 => some 4
  | 0x31 => some 11
  | 0x32 => some 1
  | 0x40 | 0x41 | 0x42 => some 1
  | 0x43 | 0x44 => some 0
  | _ => none

/-- The request that a kind and the field bytes of a record name, by the table of R192; none where the kind names no
request, the number of fields is not the kind's, or a CLEAR_FAULT names neither a carrier nor a rail (R182). -/
def decodeFields (kind : Nat) (fields : List Byte) : Option Instr :=
  match kind, fields with
  | 0x01, [n, o, ro, ra, k, x, y, z, tr] =>
    some (.setCarrier n.toNat o.toNat ro.toNat ra.toNat k.toNat x.toNat y.toNat z.toNat tr.toInt)
  | 0x02, [n] => some (.clearCarrier n.toNat)
  | 0x03, [n] => some (.enable n.toNat)
  | 0x04, [n] => some (.disable n.toNat)
  | 0x05, [n] => some (.pin n.toNat)
  | 0x06, [n] => some (.unpin n.toNat)
  | 0x07, [t, p, q] => some (.setSlices t.toNat p.toNat q.toNat)
  | 0x10, [r, i1, i0, b1, b0, f1, f0, d1, d0] =>
    some (.setRail r.toNat (be2 i1 i0) (be2 b1 b0) (be2 f1 f0) (be2 d1 d0))
  | 0x11, [r, c] => some (.setBias r.toNat c.toNat)
  | 0x12, [g, n] =>
    if g.toNat = 0 then some (.clearFaultCarrier n.toNat)
    else if g.toNat = 1 then some (.clearFaultRail n.toNat)
    else none
  | 0x20, [w, x, y, z] =>
    some (.setWindow (w.toNat / 16) (w.toNat % 16) (be3 x y z / 4096) (be3 x y z % 4096))
  | 0x21, [x, y, z] => some (.setTime (be3 x y z))
  | 0x22, [x, y] => some (.setDivider (be2 x y))
  | 0x23, [h, c, d] => some (.setInputs h.toNat c.toNat d.toNat)
  | 0x24, [b, p, x, y] => some (.setBankParam b.toNat p.toNat (be2 x y))
  | 0x25, [m] => some (.selectBank m.toNat)
  | 0x26, [] => some .standDown
  | 0x27, [] => some .resume
  | 0x30, [t, e, w, d] => some (.setPort t.toNat e.toNat w.toNat d.toNat)
  | 0x31, c :: slots => if slots.length = 10 then some (.ackAlert c.toNat (slots.map BitVec.toNat)) else none
  | 0x32, [r] => some (.clearTally r.toNat)
  | 0x40, [n] => some (.readCarrier n.toNat)
  | 0x41, [r] => some (.readRail r.toNat)
  | 0x42, [t] => some (.readTenant t.toNat)
  | 0x43, [] => some .readSite
  | 0x44, [] => some .readTally
  | _, _ => none

/-- The command that a record buffer names: the request of a record whose length byte, kind and length agree, and
otherwise the malformed record (R179 steps 2 to 4). -/
def decodeRecord (bytes : List Byte) : Instr :=
  match bytes with
  | kind :: len :: fields =>
    if len.toNat = fields.length then (decodeFields kind.toNat fields).getD (.malformedSiteRecord bytes)
    else .malformedSiteRecord bytes
  | _ => .malformedSiteRecord bytes

/-- A request as it waits in a request FIFO: the frame's kind and body as received, byte 2 apart (R165, R188). The
body is bytes 3 to 14, byte 3 most significant. -/
structure Request where
  kind : Nat
  num : Nat
  body : BitVec 96
deriving DecidableEq, Repr

/-- Bytes 3 and 4 of the frame: u of a LOAD (R189). -/
def Request.util (q : Request) : Nat := q.body.toNat / 2 ^ 80

/-- Byte 5 of the frame: n of a LOAD (R189). -/
def Request.users (q : Request) : Nat := q.body.toNat / 2 ^ 72 % 256

/-- Byte 3 of the frame: the token of an answer (R189). -/
def Request.token (q : Request) : Nat := q.body.toNat / 2 ^ 88

/-- The tenant command that a request taken from the FIFO of t's port stands for, by the codes of R189. -/
def decodeRequest (t : Tenant) (q : Request) : Instr :=
  match q.kind with
  | 0x01 => .load t q.num q.util q.users (q.body.toNat % 2 ^ 72)
  | 0x02 => .accept t q.num q.token (q.body.toNat % 2 ^ 88)
  | 0x03 => .decline t q.num q.token (q.body.toNat % 2 ^ 88)
  | 0x04 => .drained t q.num q.token (q.body.toNat % 2 ^ 88)
  | 0x05 => .wake t q.num q.body.toNat
  | 0x06 => .keep t q.num q.body.toNat
  | 0x07 => .unkeep t q.num q.body.toNat
  | 0x08 => .fault t q.num q.body.toNat
  | 0x09 => .clear t q.num q.body.toNat
  | 0x0A => .query t q.num q.body.toNat
  | k => .unknownTenantRequest t k q.num

/-- A byte field. -/
def byteOf (v : Nat) : Byte := BitVec.ofNat 8 v

/-- The record of a site request, byte by byte as R192 lays it out; none for a command that is no site request. -/
def encodeRecord : Instr → Option (List Byte)
  | .setCarrier n o ro ra k x y z tr =>
    some [0x01, 9, byteOf n, byteOf o, byteOf ro, byteOf ra, byteOf k, byteOf x, byteOf y, byteOf z, BitVec.ofInt 8 tr]
  | .clearCarrier n => some [0x02, 1, byteOf n]
  | .enable n => some [0x03, 1, byteOf n]
  | .disable n => some [0x04, 1, byteOf n]
  | .pin n => some [0x05, 1, byteOf n]
  | .unpin n => some [0x06, 1, byteOf n]
  | .setSlices t p q => some [0x07, 3, byteOf t, byteOf p, byteOf q]
  | .setRail r i b f d => some ([0x10, 9, byteOf r] ++ beBytes 2 i ++ beBytes 2 b ++ beBytes 2 f ++ beBytes 2 d)
  | .setBias r c => some [0x11, 2, byteOf r, byteOf c]
  | .clearFaultCarrier n => some [0x12, 2, 0, byteOf n]
  | .clearFaultRail r => some [0x12, 2, 1, byteOf r]
  | .setWindow w e x y => some ([0x20, 4, byteOf (w * 16 + e)] ++ beBytes 3 (x * 4096 + y))
  | .setTime t => some ([0x21, 3] ++ beBytes 3 t)
  | .setDivider d => some ([0x22, 2] ++ beBytes 2 d)
  | .setInputs h c d => some [0x23, 3, byteOf h, byteOf c, byteOf d]
  | .setBankParam b p v => some ([0x24, 4, byteOf b, byteOf p] ++ beBytes 2 v)
  | .selectBank m => some [0x25, 1, byteOf m]
  | .standDown => some [0x26, 0]
  | .resume => some [0x27, 0]
  | .setPort t e w d => some [0x30, 4, byteOf t, byteOf e, byteOf w, byteOf d]
  | .ackAlert c slots => some ([0x31, 11, byteOf c] ++ slots.map byteOf)
  | .clearTally r => some [0x32, 1, byteOf r]
  | .readCarrier n => some [0x40, 1, byteOf n]
  | .readRail r => some [0x41, 1, byteOf r]
  | .readTenant t => some [0x42, 1, byteOf t]
  | .readSite => some [0x43, 0]
  | .readTally => some [0x44, 0]
  | _ => none

end Sys2Proof
end

