-- ==== Sys2Proof/Machine/State.lean ====
section
/-! DEFINITION. The state of the CSC-32: every register, queue, timer and pin the manual gives it, as plain data, with
the queue of waiting commands; and the state right after power-on reset. -/

namespace Sys2Proof.Machine

/-- Role of a carrier (R1). -/
inductive Role where
  | coverage | capacity
deriving DecidableEq, Repr

/-- Power state of a carrier (R4). -/
inductive Power where
  | offline | active | offered | draining | asleep | waking | faulted
deriving DecidableEq, Repr

/-- Cause of a FAULTED carrier (R3). -/
inductive FaultCause where
  | tenant | rail
deriving DecidableEq, Repr

/-- The pin set of a carrier, one flag for each source (R7). -/
structure PinSet where
  site : Bool
  tenant : Bool
  link : Bool
deriving DecidableEq, Repr

/-- A source of a pin (R7). -/
inductive PinSource where
  | site | tenant | link
deriving DecidableEq, Repr

/-- The three conditions of a dwell, with its start (R48). -/
inductive Dwell where
  | absent
  | running (start : Time)
  | elapsed (start : Time)
deriving DecidableEq, Repr

/-- Min-awake: running from the moment of entry to ACTIVE, or passed with the expiry it then held (R51, log 19). -/
inductive MinAwake where
  | absent
  | running (entry : Time)
  | passed (expiry : Time)
deriving DecidableEq, Repr

/-- A carrier record: provisioning fields (R1), dynamic fields (R3), the stale timer (R23) and the exchange's timers
(R61). Each timer is its start time, or none when stopped; `holdoff` is the start of the surge holdoff (R92). -/
structure Carrier where
  provisioned : Bool
  owner : Tenant
  role : Role
  rail : RailId
  anchors : List Site
  trim : Int
  power : Power
  cause : Option FaultCause
  pins : PinSet
  load : Option Nat
  stale : Bool
  staleTimer : Option Time
  dwell : Dwell
  minAwake : MinAwake
  ripeTime : Option Time
  token : Byte
  answerTimer : Option Time
  drainTimer : Option Time
  holdoff : Option Time
deriving DecidableEq, Repr

/-- Wake class and queue class (R88, R105). -/
inductive RampClass where
  | ordinary | urgent
deriving DecidableEq, Repr

/-- Bias class (R105). -/
inductive Bias where
  | full | reduced
deriving DecidableEq, Repr

/-- State of a rail (R106). -/
inductive RailState where
  | off | queued | ramping | retryWait | on | hold | fault
deriving DecidableEq, Repr

/-- A rail record (R105). `settleTimer` is the start and the length fixed at the grant (R116); `powerGood` is the
level of the RAIL_PG line as the part was last told it, by the sample at settle expiry (R117) or by a fall (R121), and
`toldAt` the moment it was told. The line as it stands is `presentPowerGood` (log entry 5). -/
structure Rail where
  idlePower : Nat
  breakEven : Nat
  settleFull : Nat
  settleReduced : Nat
  bias : Bias
  pendingBias : Option Bias
  state : RailState
  retry : Bool
  held : Bool
  graceTimer : Option Time
  settleTimer : Option (Time × Nat)
  retryTimer : Option Time
  offSeconds : Nat
  rampCount : Nat
  powerGood : Bool
  toldAt : Option Time
deriving DecidableEq, Repr

/-- The ramp queue in its two parts, and the ramp slot (R112). -/
structure Ramp where
  urgent : List RailId
  ordinary : List RailId
  slot : Option RailId
deriving DecidableEq, Repr

/-- Link state of a tenant (R145). -/
inductive LinkState where
  | disabled | linked | lost
deriving DecidableEq, Repr

/-- Reason of a withdrawal (R73). -/
inductive Reason where
  | busy | stale | timeout | window | hold | coverage | pin | link
deriving DecidableEq, Repr

/-- Result codes of the tenant link (R169). -/
inductive TenantResult where
  | ok | badKind | badIndex | notMapped | notOwned | wrongState | staleToken | badValue
deriving DecidableEq, Repr

/-- The data of a REPLY to a QUERY (R170). -/
structure QueryData where
  power : Power
  load : Option Nat
  stale : Bool
  pins : PinSet
  token : Byte
deriving DecidableEq, Repr

/-- A notice: a state notice about one carrier (its site number, by which R171 replaces, and the local number it
names), or a REPLY with the kind as received, the result, the echoed and the carrier number (R169). -/
inductive Notice where
  | offer (site : Site) (num : Nat) (token : Byte)
  | withdraw (site : Site) (num : Nat) (token : Byte) (reason : Reason)
  | powered (site : Site) (num : Nat)
  | faulted (site : Site) (num : Nat)
  | offline (site : Site) (num : Nat)
  | reply (kind : Nat) (result : TenantResult) (echoed : Nat) (carrier : Option Nat) (data : Option QueryData)
deriving DecidableEq, Repr

/-- The transfer on a link (R160, R161): none under way; one with the rising edges seen and the two shift registers,
the next outbound bit being counted by the edges; or an abandoned one whose select has not risen. -/
inductive Transfer where
  | idle
  | active (edges : Nat) (inbound : BitVec 128) (outbound : BitVec 128)
  | abandoned
deriving DecidableEq, Repr

/-- What the part holds for one tenant: slice pointers (R9), link supervision (R145), offer queue (R54) and port
(R159 to R175). -/
structure Port where
  p0 : Option Slice
  p1 : Option Slice
  link : LinkState
  linkWindow : Nat
  drainSlots : Nat
  windowTimer : Option Time
  offerQueue : List Site
  fifo : List Request
  notices : List Notice
  latch : Option Notice
  overrun : Bool
  frameErrors : Nat
  transfer : Transfer
  stallTimer : Option Time
  tselHigh : Bool
deriving DecidableEq, Repr

/-- The three ports. -/
structure Ports where
  a : Port
  b : Port
  c : Port
deriving DecidableEq, Repr

/-- A window record (R41); `stop` is the first minute of day no longer inside. -/
structure Window where
  enabled : Bool
  start : Nat
  stop : Nat
deriving DecidableEq, Repr

/-- The site clock (R129 to R132) and the window records (R41). `divInForce` is the divider value of the division
under way (R130). -/
structure Clock where
  now : Time
  subTicks : Nat
  tod : Nat
  valid : Bool
  divider : BitVec 16
  divInForce : BitVec 16
  windows : Vector Window 2
deriving DecidableEq, Repr

/-- One conditioned line (R134). -/
structure Line where
  activeLow : Bool
  level : Bool
  conditioned : Bool
  timer : Option Time
deriving DecidableEq, Repr

/-- The input conditioner and the stand-down latch (R134, R136). `debounce` is the code of the debounce length. -/
structure Inputs where
  holdIn : Line
  sourceIn : Line
  debounce : Fin 4
  standDown : Bool
deriving DecidableEq, Repr

/-- The twelve parameters of a bank (R138). -/
structure Bank where
  shift : Nat
  weight : Nat
  sleepThreshold : Nat
  busyThreshold : Nat
  surgeThreshold : Nat
  dwell : Nat
  staleLimit : Nat
  minAwake : Nat
  surgeHoldoff : Nat
  answerTime : Nat
  drainTime : Nat
  railGrace : Nat
deriving DecidableEq, Repr

/-- Bank selection mode (R140). -/
inductive BankMode where
  | auto | bank0 | bank1
deriving DecidableEq, Repr

/-- The parameter banks and their selection (R138, R140). -/
structure Banks where
  bank : Vector Bank 2
  mode : BankMode
deriving DecidableEq, Repr

/-- Result codes of the site port (R182). -/
inductive SiteResult where
  | ok | badKind | badLength | badField | noSuch | wrongState | notVisible | noRecord
deriving DecidableEq, Repr

/-- The response record: its data length is the number of its data bytes (R176, R180). -/
structure Response where
  result : SiteResult
  data : List Byte
deriving DecidableEq, Repr

/-- Transaction state of the site port (R176); while sending, the index of the next byte of the response record and
whether the master has left a byte unacknowledged (R180). -/
inductive Txn where
  | idle
  | receiving
  | sending (next : Nat) (released : Bool)
  | ignoring
deriving DecidableEq, Repr

/-- What the part did with SDA at the last byte (R177, R180): left it released, which on the ninth clock is a NACK; pulled
the ninth clock low (ACK); or drove a byte of the response record, the ninth clock being the master's. -/
inductive SdaOut where
  | released
  | ack
  | data (byte : Byte)
deriving DecidableEq, Repr

/-- The site management port (R176). -/
structure Mgmt where
  address : Nat
  txn : Txn
  buffer : List Byte
  response : Response
  busTimer : Option Time
  sclHigh : Bool
  sda : SdaOut
deriving DecidableEq, Repr

/-- The whole part, the model's counter of free line levels (log entry 5) and the queue of waiting commands. -/
structure State where
  clock : Clock
  inputs : Inputs
  banks : Banks
  carriers : Vector Carrier 32
  stack : List Site
  rails : Vector Rail 4
  ramp : Ramp
  ports : Ports
  alerts : Vector Bool 10
  mgmt : Mgmt
  envReads : Nat
  pending : List Instr
deriving DecidableEq, Repr

/-- Reasons for which the part stops. There is none: the manual stops the part nowhere (a request it will not carry
out is answered with a result code, R169 and R182), so no command of the model ends in a fault. -/
inductive Fault where
deriving DecidableEq, Repr

/-- Reasons for which the model has no meaning for a command. -/
inductive Refusal where
  /-- Raised by no arm of this model: every row of the table has its meaning. Safe: the model stops. -/
  | notModelled (mnemonic : String)
deriving DecidableEq, Repr

/-- A pin set with no source. -/
def PinSet.empty : PinSet := ⟨false, false, false⟩

/-- A carrier record after power-on reset (R8). -/
def Carrier.reset : Carrier where
  provisioned := false
  owner := .a
  role := .coverage
  rail := 0
  anchors := []
  trim := 0
  power := .offline
  cause := none
  pins := PinSet.empty
  load := none
  stale := false
  staleTimer := none
  dwell := .absent
  minAwake := .absent
  ripeTime := none
  token := 0
  answerTimer := none
  drainTimer := none
  holdoff := none

/-- A rail record after power-on reset (R107), its RAIL_PG line at the level given. -/
def Rail.reset (powerGood : Bool) : Rail where
  idlePower := 0
  breakEven := 0
  settleFull := 100
  settleReduced := 100
  bias := .full
  pendingBias := none
  state := .off
  retry := false
  held := false
  graceTimer := none
  settleTimer := none
  retryTimer := none
  offSeconds := 0
  rampCount := 0
  powerGood := powerGood
  toldAt := none

/-- A tenant's port after power-on reset (R9, R57, R145, R175), its TSEL line at the level given. -/
def Port.reset (tselHigh : Bool) : Port where
  p0 := none
  p1 := none
  link := .disabled
  linkWindow := 10
  drainSlots := 2
  windowTimer := none
  offerQueue := []
  fifo := []
  notices := []
  latch := none
  overrun := false
  frameErrors := 0
  transfer := .idle
  stallTimer := none
  tselHigh := tselHigh

/-- The clock and windows after power-on reset (R41, R129, R131, R132). -/
def Clock.reset : Clock where
  now := 0
  subTicks := 0
  tod := 0
  valid := false
  divider := 9999
  divInForce := 9999
  windows := Vector.replicate 2 ⟨false, 0, 0⟩

/-- A conditioned line after power-on reset, its pin at the level given (R134). -/
def Line.reset (level : Bool) : Line := ⟨false, level, false, none⟩

/-- Bank 0 after power-on reset (R138). -/
def Bank.reset0 : Bank where
  shift := 3
  weight := 4
  sleepThreshold := 150
  busyThreshold := 300
  surgeThreshold := 700
  dwell := 900
  staleLimit := 30
  minAwake := 1800
  surgeHoldoff := 120
  answerTime := 5
  drainTime := 120
  railGrace := 60

/-- Bank 1 after power-on reset (R138). -/
def Bank.reset1 : Bank where
  shift := 3
  weight := 4
  sleepThreshold := 250
  busyThreshold := 400
  surgeThreshold := 800
  dwell := 600
  staleLimit := 30
  minAwake := 1200
  surgeHoldoff := 180
  answerTime := 5
  drainTime := 120
  railGrace := 30

/-- The site port after power-on reset with ADDR[2:0] at the given level (R176), SCL at the level given. -/
def Mgmt.reset (addr : Nat) (sclHigh : Bool) : Mgmt where
  address := 0x50 + addr % 8
  txn := .idle
  buffer := []
  response := ⟨.noRecord, []⟩
  busTimer := none
  sclHigh := sclHigh
  sda := .released

/-- The state after power-on reset: R8, R9, R41, R57, R61, R86, R92, R107, R112, R129 to R134, R136, R138, R140, R145,
R156, R175, R176. The input pins are at the levels of log entries 5, 6 and 7. -/
def State.reset : State where
  clock := Clock.reset
  inputs := ⟨Line.reset false, Line.reset false, 1, false⟩
  banks := ⟨#v[Bank.reset0, Bank.reset1], .auto⟩
  carriers := Vector.replicate 32 Carrier.reset
  stack := []
  rails := Vector.replicate 4 (Rail.reset false)
  ramp := ⟨[], [], none⟩
  ports := ⟨Port.reset true, Port.reset true, Port.reset true⟩
  alerts := Vector.replicate 10 false
  mgmt := Mgmt.reset 0 true
  envReads := 0
  pending := []

end Sys2Proof.Machine
end

