-- ==== Sys2Proof/Machine/Flags.lean ====
section
/-! DEFINITION. Access to the parts of the state, and every status and condition the manual defines from the state: the
elapsed time of a timer, night and R, site hold, the selected bank, the counts, ripeness, and the levels of the part's
output lines. -/

namespace Sys2Proof.Machine

/-! ### Access -/

def State.carrier (s : State) (n : Site) : Carrier := s.carriers[n.val]

def State.modCarrier (s : State) (n : Site) (f : Carrier → Carrier) : State :=
  { s with carriers := s.carriers.set n.val (f s.carriers[n.val]) }

def State.rail (s : State) (r : RailId) : Rail := s.rails[r.val]

def State.modRail (s : State) (r : RailId) (f : Rail → Rail) : State :=
  { s with rails := s.rails.set r.val (f s.rails[r.val]) }

def Ports.get (p : Ports) : Tenant → Port
  | .a => p.a
  | .b => p.b
  | .c => p.c

def Ports.set (p : Ports) (t : Tenant) (q : Port) : Ports :=
  match t with
  | .a => { p with a := q }
  | .b => { p with b := q }
  | .c => { p with c := q }

def State.port (s : State) (t : Tenant) : Port := s.ports.get t

def State.modPort (s : State) (t : Tenant) (f : Port → Port) : State :=
  { s with ports := s.ports.set t (f (s.ports.get t)) }

/-- One after another in ascending order of site number, each whole before the next. -/
def forSites (f : Site → State → State) (s : State) : State := allSites.foldl (fun s n => f n s) s

/-- One after another in ascending order of rail number. -/
def forRails (f : RailId → State → State) (s : State) : State := allRails.foldl (fun s r => f r s) s

/-- One after another in the order of a list. -/
def forList {α : Type} (l : List α) (f : α → State → State) (s : State) : State := l.foldl (fun s x => f x s) s

/-! ### Time -/

def State.now (s : State) : Time := s.clock.now

/-- The time elapsed since a start, modulo 2^48 (R129). -/
def elapsedSince (s : State) (start : Time) : Nat := (s.now - start).toNat

/-- A length in seconds, in ticks (R129). -/
def secs (n : Nat) : Nat := 1000 * n

/-- A running timer whose elapsed time has reached a length in ticks (6.3 of 00_scope). -/
def due (s : State) (timer : Option Time) (len : Nat) : Bool :=
  match timer with
  | none => false
  | some start => len ≤ elapsedSince s start

/-! ### Input lines, site hold and the selected bank -/

/-- The level of a line read through its polarity (R134). -/
def Line.present (l : Line) : Bool := l.level != l.activeLow

/-- The debounce length in ticks that a code selects (R134, R192). -/
def debounceTicks (code : Fin 4) : Nat :=
  if code = 0 then 0 else if code = 1 then 10 else if code = 2 then 100 else 1000

def Inputs.line (i : Inputs) : InputLine → Line
  | .holdIn => i.holdIn
  | .sourceIn => i.sourceIn

def Inputs.setLine (i : Inputs) (which : InputLine) (l : Line) : Inputs :=
  match which with
  | .holdIn => { i with holdIn := l }
  | .sourceIn => { i with sourceIn := l }

/-- Site hold (R137). -/
def siteHold (s : State) : Bool := s.inputs.holdIn.conditioned || s.inputs.standDown

/-- The selected bank's number (R140). -/
def selectedBank (s : State) : Fin 2 :=
  match s.banks.mode with
  | .bank0 => 0
  | .bank1 => 1
  | .auto => if s.inputs.sourceIn.conditioned then 1 else 0

/-- The parameters of the selected bank. -/
def bank (s : State) : Bank := s.banks.bank[(selectedBank s).val]

/-! ### Night -/

/-- Membership of a time of day in a window (R42). -/
def Window.contains (w : Window) (t : Nat) : Bool :=
  let m := t / 60
  if w.start < w.stop then w.start ≤ m && m < w.stop
  else if w.stop < w.start then w.start ≤ m || m < w.stop
  else false

/-- The remaining time r of an enabled window that contains t, else 0 (R43). -/
def Window.remaining (w : Window) (t : Nat) : Nat :=
  if w.enabled && w.contains t then (60 * w.stop + 86400 - t) % 86400 else 0

/-- R, the remaining night time in seconds (R43). -/
def remaining (s : State) : Nat :=
  if s.clock.valid then
    max (s.clock.windows[0].remaining s.clock.tod) (s.clock.windows[1].remaining s.clock.tod)
  else 0

/-- The night condition (R44). -/
def night (s : State) : Bool :=
  s.clock.valid
    && ((s.clock.windows[0].enabled && s.clock.windows[0].contains s.clock.tod)
      || (s.clock.windows[1].enabled && s.clock.windows[1].contains s.clock.tod))
    && !siteHold s

/-! ### Carriers -/

/-- ACTIVE, OFFERED, DRAINING and WAKING need power (R4). -/
def Power.needs : Power → Bool
  | .active => true
  | .offered => true
  | .draining => true
  | .waking => true
  | .offline => false
  | .asleep => false
  | .faulted => false

/-- OFFERED or DRAINING: the phases of an exchange (R61). -/
def Power.inExchange : Power → Bool
  | .offered => true
  | .draining => true
  | .offline => false
  | .active => false
  | .asleep => false
  | .waking => false
  | .faulted => false

def PinSet.isEmpty (p : PinSet) : Bool := !p.site && !p.tenant && !p.link

def PinSet.has (p : PinSet) : PinSource → Bool
  | .site => p.site
  | .tenant => p.tenant
  | .link => p.link

def PinSet.put (p : PinSet) (src : PinSource) (v : Bool) : PinSet :=
  match src with
  | .site => { p with site := v }
  | .tenant => { p with tenant := v }
  | .link => { p with link := v }

/-- n is a dependent of x: a provisioned CAPACITY carrier whose anchor list contains x (R2). -/
def dependent (s : State) (x n : Site) : Bool :=
  (s.carrier n).provisioned && (s.carrier n).role == .capacity && (s.carrier n).anchors.contains x

/-- The draining-dependent count of x (R61, R83). -/
def drainingDependents (s : State) (x : Site) : Nat :=
  allSites.countP fun n => dependent s x n && (s.carrier n).power == .draining

/-- The need count of a rail (R105). -/
def needCount (s : State) (r : RailId) : Nat :=
  allSites.countP fun n => (s.carrier n).provisioned && (s.carrier n).rail == r && (s.carrier n).power.needs

/-- The number of ASLEEP carriers on a rail (R110). -/
def sleepersOn (s : State) (r : RailId) : Nat :=
  allSites.countP fun n => (s.carrier n).provisioned && (s.carrier n).rail == r && (s.carrier n).power == .asleep

/-- The outstanding count of a tenant (R57). -/
def outstanding (s : State) (t : Tenant) : Nat :=
  allSites.countP fun n => (s.carrier n).provisioned && (s.carrier n).owner == t && (s.carrier n).power.inExchange

/-- An anchor in ACTIVE, stale or not (R97). -/
def someAnchorActive (s : State) (n : Site) : Bool :=
  (s.carrier n).anchors.any fun x => (s.carrier x).power == .active

/-- Condition 9 of R52: an anchor ACTIVE with its stale flag clear. -/
def someAnchorFit (s : State) (n : Site) : Bool :=
  (s.carrier n).anchors.any fun x => (s.carrier x).power == .active && !(s.carrier x).stale

def Dwell.isElapsed : Dwell → Bool
  | .elapsed _ => true
  | .running _ => false
  | .absent => false

/-- The start of a dwell in the running condition. -/
def Dwell.runningSince : Dwell → Option Time
  | .running st => some st
  | .elapsed _ => none
  | .absent => none

/-- The dwell start field (R48). -/
def Dwell.start : Dwell → Option Time
  | .running st => some st
  | .elapsed st => some st
  | .absent => none

def MinAwake.hasPassed : MinAwake → Bool
  | .passed _ => true
  | .running _ => false
  | .absent => false

/-- The moment of entry of a min-awake that runs. -/
def MinAwake.runningSince : MinAwake → Option Time
  | .running e => some e
  | .passed _ => none
  | .absent => none

/-- A moment plus a length in seconds. -/
def later (start : Time) (seconds : Nat) : Time := start + BitVec.ofNat 48 (secs seconds)

/-- The min-awake expiry field: while it runs, the moment of entry plus the length in force (R51, R142). -/
def minAwakeExpiry (s : State) (m : MinAwake) : Option Time :=
  match m with
  | .absent => none
  | .running e => some (later e (bank s).minAwake)
  | .passed x => some x

/-- The surge holdoff expiry field: the start plus the length in force (R92). -/
def holdoffExpiry (s : State) (c : Carrier) : Option Time := c.holdoff.map fun st => later st (bank s).surgeHoldoff

/-- The nine conditions of ripeness (R52). -/
def ripe (s : State) (n : Site) : Bool :=
  let c := s.carrier n
  c.provisioned && c.role == .capacity
    && c.power == .active
    && (c.load.isSome && !c.stale)
    && c.dwell.isElapsed
    && c.minAwake.hasPassed
    && c.pins.isEmpty
    && (s.port c.owner).link == .linked
    && night s
    && someAnchorFit s n

/-! ### Rails -/

/-- RAIL_EN by the rail's state, true for asserted (R106). -/
def RailState.enabled : RailState → Bool
  | .ramping => true
  | .on => true
  | .hold => true
  | .off => false
  | .queued => false
  | .retryWait => false
  | .fault => false

/-- Tallied as dark (R106). -/
def RailState.dark : RailState → Bool
  | .off => true
  | .queued => true
  | .retryWait => true
  | .ramping => false
  | .on => false
  | .hold => false
  | .fault => false

/-- The ramp queue from head to tail: the urgent part, then the ordinary part (R112). -/
def Ramp.queue (q : Ramp) : List RailId := q.urgent ++ q.ordinary

/-- The queue class of a rail, present while it is in the ramp queue (R105). -/
def Ramp.classOf (q : Ramp) (r : RailId) : Option RampClass :=
  if q.urgent.contains r then some .urgent else if q.ordinary.contains r then some .ordinary else none

/-- The settle time that the current bias selects (R105). -/
def Rail.settle (x : Rail) : Nat :=
  match x.bias with
  | .full => x.settleFull
  | .reduced => x.settleReduced

/-- Saved energy in watt-hours (R127). -/
def Rail.savedWh (x : Rail) : Nat := x.offSeconds * x.idlePower / 3600

/-- A count that stays at a greatest value (R105, R162). -/
def satSucc (top v : Nat) : Nat := if v < top then v + 1 else v

/-! ### Notices and ports -/

/-- The carrier a state notice is about; none for a REPLY (R171). -/
def Notice.about : Notice → Option Site
  | .offer n _ _ => some n
  | .withdraw n _ _ _ => some n
  | .powered n _ => some n
  | .faulted n _ => some n
  | .offline n _ => some n
  | .reply _ _ _ _ _ => none

def Notice.isReply (x : Notice) : Bool := x.about.isNone

/-- Replies in the notice queue and the in-flight latch together (R168). -/
def Port.replies (p : Port) : Nat :=
  p.notices.countP Notice.isReply + (if p.latch.any Notice.isReply then 1 else 0)

/-- A request at the head of the FIFO can be taken: the tenant is LINKED and a reply slot is free (R168). -/
def Port.canTake (p : Port) : Bool := p.link == .linked && p.replies < Config.replySlots

/-- ATTN: asserted while the port is enabled and its notice queue holds a notice (R173). -/
def Port.attn (p : Port) : Bool := p.link != .disabled && !p.notices.isEmpty

/-! ### Timers that have reached their length

A timer expires when the time elapsed since its start reaches its length, and a stopped one does not (6.3 of 00_scope). -/

/-- A carrier's stale timer has reached the stale limit in force (R33). -/
def staleDue (s : State) (n : Site) : Bool := due s (s.carrier n).staleTimer (secs (bank s).staleLimit)

/-- A carrier's running dwell has reached the dwell length in force (R50). -/
def dwellDue (s : State) (n : Site) : Bool := due s (s.carrier n).dwell.runningSince (secs (bank s).dwell)

/-- A carrier's running min-awake has reached its length in force (R51). -/
def minAwakeDue (s : State) (n : Site) : Bool := due s (s.carrier n).minAwake.runningSince (secs (bank s).minAwake)

/-- A carrier's answer timer has reached the offer answer time in force (R69). -/
def answerDue (s : State) (n : Site) : Bool := due s (s.carrier n).answerTimer (secs (bank s).answerTime)

/-- A carrier's drain timer has reached the drain time in force (R70). -/
def drainDue (s : State) (n : Site) : Bool := due s (s.carrier n).drainTimer (secs (bank s).drainTime)

/-- A carrier's surge holdoff has reached its length in force (R92). -/
def holdoffDue (s : State) (n : Site) : Bool := due s (s.carrier n).holdoff (secs (bank s).surgeHoldoff)

/-- A rail's grace timer has reached the rail grace in force (R110). -/
def graceDue (s : State) (r : RailId) : Bool := due s (s.rail r).graceTimer (secs (bank s).railGrace)

/-- A rail's settle timer has reached the length fixed at its grant (R116, R117). -/
def settleDue (s : State) (r : RailId) : Bool :=
  match (s.rail r).settleTimer with
  | none => false
  | some (start, len) => len ≤ elapsedSince s start

/-- A rail's retry wait timer has reached 2 s (R118, R119). -/
def retryDue (s : State) (r : RailId) : Bool := due s (s.rail r).retryTimer Config.retryWait

/-- A line's debounce timer has reached the debounce length (R134). -/
def debounceDue (s : State) (which : InputLine) : Bool :=
  due s (s.inputs.line which).timer (debounceTicks s.inputs.debounce)

/-- A port's stall timer has reached 5 ms (R161). -/
def stallDue (s : State) (t : Tenant) : Bool := due s (s.port t).stallTimer Config.stallLength

/-- A port's link window timer has reached the link window (R146). -/
def linkWindowDue (s : State) (t : Tenant) : Bool := due s (s.port t).windowTimer (secs (s.port t).linkWindow)

/-- The bus timer has reached 25 ms (R181). -/
def busDue (s : State) : Bool := due s s.mgmt.busTimer Config.busTimeout

/-! ### Lines -/

/-- The level last told of a RAIL_PG line was told at the present moment (log entry 5). -/
def toldNow (s : State) (r : RailId) : Bool := (s.rail r).toldAt == some s.now

/-- The part knows the level of a RAIL_PG line: it was told at this moment, or the rail is in ON or HOLD, where a fall would
have come (R121). -/
def knowsPowerGood (s : State) (r : RailId) : Bool :=
  (s.rail r).state == .on || (s.rail r).state == .hold || toldNow s r

/-- The level of a RAIL_PG line as it stands now: the level last told where the part knows it, else the outside's, a free
value for each read (R128, log entry 5). -/
def presentPowerGood (s : State) (r : RailId) : Bool :=
  if knowsPowerGood s r then (s.rail r).powerGood else Config.railPowerGood s.envReads

/-- What a sample of RAIL_PG finds where the outside brings a level: low after a fall told at this moment (R123), else that
level. -/
def sampledPowerGood (s : State) (r : RailId) (level : Bool) : Bool :=
  level && !(toldNow s r && !(s.rail r).powerGood)

/-- TDOUT: the bit of the outbound frame that stands for the next rising edge, zero past the 128th, zero while the port
is DISABLED or its transfer abandoned (R159 to R161); between transfers the manual says nothing (log entry 17). -/
def tdout (s : State) (t : Tenant) : Bool :=
  if (s.port t).link == .disabled then false
  else
    match (s.port t).transfer with
    | .idle => Config.tdoutBetweenTransfers t s.now
    | .active edges _ out => out.getMsbD edges
    | .abandoned => false

/-- ALERT_N: low while the alert set holds an entry (R156). -/
def alertN (s : State) : Bool := !s.alerts.toList.any id

end Sys2Proof.Machine
end

