-- ==== Sys2Proof/Machine/Operands.lean ====
section
/-! DEFINITION. The operands of requests and the bytes of frames and records: local numbers and their translation (R10,
R11), the codes of R189 to R193, and the frames' marker and check (R162). -/

namespace Sys2Proof.Machine

/-! ### Numbers in requests -/

/-- A site number below 32. -/
def siteOf (n : Nat) : Option Site := if h : n < 32 then some ⟨n, h⟩ else none

/-- A rail number below 4. -/
def railOf (r : Nat) : Option RailId := if h : r < 4 then some ⟨r, h⟩ else none

def tenantOf (code : Nat) : Option Tenant :=
  match code with
  | 0 => some .a
  | 1 => some .b
  | 2 => some .c
  | _ => none

def tenantCode : Tenant → Nat
  | .a => 0
  | .b => 1
  | .c => 2

def roleOf (code : Nat) : Option Role :=
  match code with
  | 0 => some .coverage
  | 1 => some .capacity
  | _ => none

def biasOf (code : Nat) : Option Bias :=
  match code with
  | 0 => some .full
  | 1 => some .reduced
  | _ => none

/-- A code 0 for no, 1 for yes. -/
def flagOf (code : Nat) : Option Bool :=
  match code with
  | 0 => some false
  | 1 => some true
  | _ => none

def modeOf (code : Nat) : Option BankMode :=
  match code with
  | 0 => some .auto
  | 1 => some .bank0
  | 2 => some .bank1
  | _ => none

/-- A slice pointer value: 0 to 3, or 0xFF for NONE (R192). -/
def pointerOf (code : Nat) : Option (Option Slice) :=
  if h : code < 4 then some (some ⟨code, h⟩) else if code = 0xFF then some none else none

/-- The slice that holds a site number (R9). -/
def sliceOf (n : Site) : Slice := ⟨n.val / 8, by omega⟩

/-- The record at place k of a slice (R9). -/
def siteAt (sl : Slice) (k : Nat) : Site := ⟨sl.val * 8 + k % 8, by omega⟩

/-! ### Local numbers -/

/-- Translation of a local number from the port of t (R10). -/
def translate (s : State) (t : Tenant) (l : Nat) : Except TenantResult Site :=
  if 16 ≤ l then .error .badIndex
  else
    match if l < 8 then (s.port t).p0 else (s.port t).p1 with
    | none => .error .notMapped
    | some sl =>
      let n := siteAt sl l
      if (s.carrier n).provisioned && (s.carrier n).owner == t then .ok n else .error .notOwned

/-- The lowest local number by which a tenant's pointers reach a site number (R11). -/
def lowestLocal (s : State) (t : Tenant) (n : Site) : Option Nat :=
  if (s.port t).p0 = some (sliceOf n) then some (n.val % 8)
  else if (s.port t).p1 = some (sliceOf n) then some (n.val % 8 + 8)
  else none

/-- The number by which a notice names a carrier to its owner: the lowest that reaches it (R11). A carrier its owner
does not reach has no notice (R19); the absent code would stand there (log entry 22). -/
def noticeNumber (s : State) (n : Site) : Nat := (lowestLocal s (s.carrier n).owner n).getD 0xFF

/-! ### Codes (R190, R191, R193) -/

def Power.code : Power → Nat
  | .offline => 0
  | .active => 1
  | .offered => 2
  | .draining => 3
  | .asleep => 4
  | .waking => 5
  | .faulted => 6

def Reason.code : Reason → Nat
  | .busy => 1
  | .stale => 2
  | .timeout => 3
  | .window => 4
  | .hold => 5
  | .coverage => 6
  | .pin => 7
  | .link => 8

def TenantResult.code : TenantResult → Nat
  | .ok => 0
  | .badKind => 1
  | .badIndex => 2
  | .notMapped => 3
  | .notOwned => 4
  | .wrongState => 5
  | .staleToken => 6
  | .badValue => 7

def SiteResult.code : SiteResult → Nat
  | .ok => 0
  | .badKind => 1
  | .badLength => 2
  | .badField => 3
  | .noSuch => 4
  | .wrongState => 5
  | .notVisible => 6
  | .noRecord => 0xFF

def RailState.code : RailState → Nat
  | .off => 0
  | .queued => 1
  | .ramping => 2
  | .retryWait => 3
  | .on => 4
  | .hold => 5
  | .fault => 6

def Role.code : Role → Nat
  | .coverage => 0
  | .capacity => 1

def Bias.code : Bias → Nat
  | .full => 0
  | .reduced => 1

def RampClass.code : RampClass → Nat
  | .ordinary => 0
  | .urgent => 1

def LinkState.code : LinkState → Nat
  | .disabled => 0
  | .linked => 1
  | .lost => 2

def BankMode.code : BankMode → Nat
  | .auto => 0
  | .bank0 => 1
  | .bank1 => 2

def FaultCause.code : FaultCause → Nat
  | .tenant => 1
  | .rail => 2

/-- A number whose binary digits are given, bit 0 first. -/
def bitsCode : List Bool → Nat
  | [] => 0
  | b :: bs => b.toNat + 2 * bitsCode bs

/-- The pin set byte (R191). -/
def PinSet.code (p : PinSet) : Nat := bitsCode [p.site, p.tenant, p.link]

/-- S, or 0xFFFF when unseeded (R187). -/
def loadCode (l : Option Nat) : Nat := l.getD 0xFFFF

/-- A one-byte field that may be absent (R187). -/
def orAbsent (v : Option Nat) : Nat := v.getD 0xFF

/-- A time field: 7 bytes, absent or present (R187). -/
def timeBytes : Option Time → List Byte
  | none => [0xFF, 0, 0, 0, 0, 0, 0]
  | some t => 0 :: beBytes 6 t.toNat

/-! ### Tenant frames -/

/-- The kind code of an outbound frame: the latched notice's, or IDLE (R190). -/
def noticeKind : Option Notice → Nat
  | none => 0x00
  | some (.offer _ _ _) => 0x10
  | some (.withdraw _ _ _ _) => 0x11
  | some (.powered _ _) => 0x12
  | some (.faulted _ _) => 0x13
  | some (.offline _ _) => 0x14
  | some (.reply _ _ _ _ _) => 0x20

/-- The bytes from byte 3 on that a notice's kind uses (R190). -/
def noticeFields : Option Notice → List Byte
  | none => []
  | some (.offer _ l tok) => [byteOf l, tok]
  | some (.withdraw _ l tok why) => [byteOf l, tok, byteOf why.code]
  | some (.powered _ l) => [byteOf l]
  | some (.faulted _ l) => [byteOf l]
  | some (.offline _ l) => [byteOf l]
  | some (.reply k res l c d) =>
    [byteOf k, byteOf res.code, byteOf l, byteOf (orAbsent c)] ++
      match d with
      | none => []
      | some q => [byteOf q.power.code] ++ beBytes 2 (loadCode q.load) ++ [byteOf q.stale.toNat, byteOf q.pins.code, q.token]

/-- The sum of bytes, modulo 256. -/
def byteSum (bs : List Byte) : Byte := bs.foldl (· + ·) 0

/-- Bytes 0 to 14 of the outbound frame of a latched notice: marker, kind, port status, body (R188). -/
def frameHead (x : Option Notice) (overrun : Bool) (waiting : Nat) : List Byte :=
  [0xC3, byteOf (noticeKind x), byteOf (128 * overrun.toNat + waiting % 32)]
    ++ (noticeFields x ++ List.replicate 12 0).take 12

/-- The check byte of a frame's first fifteen bytes (R162). -/
def checkByte (head : List Byte) : Byte := 255 - byteSum head

/-- The outbound frame (R188). -/
def outboundFrame (x : Option Notice) (overrun : Bool) (waiting : Nat) : List Byte :=
  frameHead x overrun waiting ++ [checkByte (frameHead x overrun waiting)]

/-- A frame's bytes in the shift register, byte 0 most significant (R159). -/
def shiftRegister (bs : List Byte) : BitVec 128 := bs.foldl (fun r b => r <<< 8 ||| b.setWidth 128) 0

/-- Byte k of a frame in the shift register. -/
def frameByte (r : BitVec 128) (k : Nat) : Byte := (r >>> (8 * (15 - k))).setWidth 8

/-- The bytes of a frame in the shift register. -/
def frameBytes (r : BitVec 128) : List Byte := (List.range 16).map (frameByte r)

/-- A complete inbound frame passes: it has the marker and a correct check (R162). -/
def framePasses (r : BitVec 128) : Bool := frameByte r 0 == 0xC3 && byteSum (frameBytes r) == 255

/-- The request of an inbound frame (R165, R188): its kind, its byte 2 and bytes 3 to 14. -/
def frameRequest (r : BitVec 128) : Request :=
  ⟨(frameByte r 1).toNat, (frameByte r 2).toNat, (r >>> 8).setWidth 96⟩

end Sys2Proof.Machine
end

