-- ==== Sys2Proof/Machine/Ops.lean ====
section
/-! DEFINITION. The operations that several commands share: notices, offer queues and dispatch, the rail controller, the
moves of a carrier between power states, wakes, withdrawals, restoration, faults, night's end and start, and the site
port's response. Each follows the rule its docstring cites; one uses only those before it. -/

namespace Sys2Proof.Machine

/-! ### Notices -/

/-- The notice queue after a notice joins it: a state notice replaces the queued one about the same carrier (R171). -/
def joinNotices (queue : List Notice) (x : Notice) : List Notice :=
  match x.about with
  | some n => queue.filter (fun y => y.about != some n) ++ [x]
  | none => queue ++ [x]

/-- Posting a notice to a tenant: discarded while its port is DISABLED (R174). -/
def post (t : Tenant) (x : Notice) (s : State) : State :=
  s.modPort t fun p => if p.link == .disabled then p else { p with notices := joinNotices p.notices x }

/-! ### Offer queue and dispatch -/

/-- A carrier leaves its owner's offer queue from whatever position it holds; its ripe time becomes absent (R55). -/
def unqueue (n : Site) (s : State) : State :=
  (s.modPort (s.carrier n).owner fun p => { p with offerQueue := p.offerQueue.filter (· != n) }).modCarrier n
    fun c => { c with ripeTime := none }

/-- A carrier joins its owner's offer queue at the tail with the present moment as its ripe time (R54). -/
def joinQueue (n : Site) (s : State) : State :=
  (s.modPort (s.carrier n).owner fun p => { p with offerQueue := p.offerQueue ++ [n] }).modCarrier n
    fun c => { c with ripeTime := some s.now }

/-- Issuing the offer of a dispatched carrier (R62): next token, OFFERED, OFFER notice, answer timer. The exit from
ACTIVE ends the dwell (R49). -/
def issueOffer (n : Site) (s : State) : State :=
  let s1 := s.modCarrier n fun c =>
    { c with
      token := c.token + 1
      power := .offered
      dwell := .absent
      ripeTime := none
      answerTimer := some s.now }
  post (s1.carrier n).owner (.offer n (noticeNumber s1 n) (s1.carrier n).token) s1

/-- A dispatch attempt, at most k carriers (R58). -/
def dispatchUpTo : Nat → Tenant → State → State
  | 0, _, s => s
  | k + 1, t, s =>
    match (s.port t).offerQueue with
    | [] => s
    | n :: rest =>
      if outstanding s t < (s.port t).drainSlots then
        dispatchUpTo k t (issueOffer n (s.modPort t fun p => { p with offerQueue := rest }))
      else s

/-- A dispatch attempt: it repeats while the queue holds a carrier and a drain slot is free (R58). -/
def dispatch (t : Tenant) (s : State) : State := dispatchUpTo (s.port t).offerQueue.length t s

/-- Re-evaluation of a carrier's ripeness: it joins or leaves its owner's queue by the result; a carrier whose ripeness
is unchanged keeps its place (R53). Each join is followed by its dispatch attempt (R56). -/
def reeval (n : Site) (s : State) : State :=
  if ripe s n then
    if (s.port (s.carrier n).owner).offerQueue.contains n then s
    else dispatch (s.carrier n).owner (joinQueue n s)
  else unqueue n s

/-- Re-evaluation of the dependents of a coverage carrier, ascending (R53). -/
def reevalDependents (x : Site) (s : State) : State :=
  forSites (fun n s => if dependent s x n then reeval n s else s) s

/-! ### Rail controller -/

/-- The rail leaves the ramp queue from whatever position it holds (R112). -/
def leaveRamp (r : RailId) (s : State) : State :=
  { s with ramp := { s.ramp with urgent := s.ramp.urgent.filter (· != r), ordinary := s.ramp.ordinary.filter (· != r) } }

/-- The rail joins the tail of a part of the ramp queue (R112). -/
def joinRamp (r : RailId) (cls : RampClass) (s : State) : State :=
  match cls with
  | .urgent => { s with ramp := { s.ramp with urgent := s.ramp.urgent ++ [r] } }
  | .ordinary => { s with ramp := { s.ramp with ordinary := s.ramp.ordinary ++ [r] } }

/-- The grant of the ramp slot to a rail (R116). -/
def grantTo (r : RailId) (s : State) : State :=
  let s1 := leaveRamp r s
  let s2 := s1.modRail r fun x =>
    let y := { x with bias := x.pendingBias.getD x.bias, pendingBias := none }
    { y with
      state := .ramping
      rampCount := satSucc Config.tallyMax y.rampCount
      settleTimer := some (s.now, y.settle) }
  { s2 with ramp := { s2.ramp with slot := some r } }

/-- The grant made whenever the slot is free and the ramp queue is not empty: to the head (R116). -/
def grant (s : State) : State :=
  match s.ramp.slot with
  | some _ => s
  | none =>
    match s.ramp.queue with
    | [] => s
    | r :: _ => grantTo r s

/-- The slot is released, and the grant follows (R117, R118, R120). -/
def releaseSlot (s : State) : State := grant { s with ramp := { s.ramp with slot := none } }

/-- A rail enters QUEUED at the tail of the part of a class, and the grant follows if the slot is free (R113, R119). -/
def queueRail (r : RailId) (cls : RampClass) (s : State) : State :=
  grant (joinRamp r cls (s.modRail r fun x => { x with state := .queued }))

/-- An urgent need raises a rail from the ordinary part to the tail of the urgent part (R114). -/
def raiseRail (r : RailId) (cls : RampClass) (s : State) : State :=
  match cls with
  | .ordinary => s
  | .urgent => if s.ramp.ordinary.contains r then joinRamp r .urgent (leaveRamp r s) else s

/-- A rail enters OFF from HOLD (R111). -/
def railOff (r : RailId) (s : State) : State :=
  s.modRail r fun x => { x with state := .off, graceTimer := none, held := false }

/-- The test at the expiry of the grace timer of a rail in HOLD (R110). -/
def graceTest (r : RailId) (s : State) : State :=
  let s1 := s.modRail r fun x => { x with graceTimer := none }
  if sleepersOn s r = 0 then railOff r s1
  else if night s && (s.rail r).breakEven ≤ remaining s then railOff r s1
  else s1.modRail r fun x => { x with held := true }

/-- A rail enters HOLD with its grace timer started; a grace of 0 expires at once (R108, R109). -/
def enterHold (r : RailId) (s : State) : State :=
  let s1 := s.modRail r fun x => { x with state := .hold, graceTimer := some s.now, held := false }
  if (bank s).railGrace = 0 then graceTest r s1 else s1

/-- A rail re-examines its need after a carrier on it has left the need-for-power group (R108, R115, R117, R119, R121). -/
def needFalls (r : RailId) (s : State) : State :=
  if needCount s r = 0 then
    match (s.rail r).state with
    | .on => enterHold r s
    | .queued => leaveRamp r (s.modRail r fun x => { x with state := .off })
    | .off => s
    | .ramping => s
    | .retryWait => s
    | .hold => s
    | .fault => s
  else s

/-- A held rail whose last ASLEEP carrier has left ASLEEP for OFFLINE or FAULTED enters OFF (R109, R111). -/
def sleeperLeaves (r : RailId) (s : State) : State :=
  if (s.rail r).state == .hold && (s.rail r).held && sleepersOn s r == 0 then railOff r s else s

/-- What a carrier's exit from its power state means to its rail: a need lost, or a sleeper lost (R151 step 3). -/
def railLoses (was : Power) (r : RailId) (s : State) : State :=
  if was.needs then needFalls r s
  else if was == .asleep then sleeperLeaves r s
  else s

/-! ### Surge suspension -/

/-- After a drain has ended for a carrier: each of its anchors that is ACTIVE and has no draining dependent left starts
its surge holdoff (R84). -/
def endOfDrain (anchors : List Site) (s : State) : State :=
  forList anchors (fun x s =>
    if drainingDependents s x = 0 && (s.carrier x).power == .active then
      s.modCarrier x fun c => { c with holdoff := some s.now }
    else s) s

/-- A carrier that has left DRAINING ends its drain; one that was not DRAINING has none (R83). -/
def leftDraining (was : Power) (anchors : List Site) (s : State) : State :=
  if was == .draining then endOfDrain anchors s else s

/-- A carrier that has left OFFERED or DRAINING frees its owner's drain slot (R58). -/
def leftExchange (was : Power) (t : Tenant) (s : State) : State :=
  if was.inExchange then dispatch t s else s

/-! ### Entry to ACTIVE -/

/-- Min-awake at an entry to ACTIVE: CAPACITY carriers only; a length of 0 passes at once (R51). -/
def startMinAwake (s : State) (role : Role) : MinAwake :=
  match role with
  | .coverage => .absent
  | .capacity => if (bank s).minAwake = 0 then .passed s.now else .running s.now

/-- The effects of every entry to ACTIVE on the carrier itself: S unseeded, stale flag clear and timer stopped (R32),
dwell absent (R49), min-awake started (R51), exchange timers stopped (R61), no holdoff (R92), not ripe (R53). -/
def enterActive (n : Site) (s : State) : State :=
  unqueue n (s.modCarrier n fun c =>
    { c with
      power := .active
      load := none
      stale := false
      staleTimer := none
      dwell := .absent
      minAwake := startMinAwake s c.role
      answerTimer := none
      drainTimer := none
      holdoff := none })

/-- A carrier in WAKING becomes ACTIVE, with its POWERED notice; a coverage carrier's dependents are re-evaluated (R101,
R102). The notice comes before the offers that follow (log entry 14). -/
def powered (n : Site) (s : State) : State :=
  let s1 := enterActive n s
  let s2 := post (s1.carrier n).owner (.powered n (noticeNumber s1 n)) s1
  if (s.carrier n).role == .coverage then reevalDependents n s2 else s2

/-! ### Entry to WAKING -/

/-- A carrier meets its rail in FAULT: FAULTED with cause RAIL at once, with a FAULTED notice (R89). -/
def faultedOnRail (n : Site) (s : State) : State :=
  let s1 := s.modCarrier n fun c => { c with power := .faulted, cause := some .rail }
  post (s1.carrier n).owner (.faulted n (noticeNumber s1 n)) s1

/-- A carrier enters WAKING, a new need of a class on its rail: what follows depends on the rail's state (R89, R109,
R113, R114, R117, R119). -/
def enterWaking (n : Site) (cls : RampClass) (s : State) : State :=
  let s1 := s.modCarrier n fun c => { c with power := .waking, cause := none }
  let r := (s.carrier n).rail
  match (s.rail r).state with
  | .on => powered n s1
  | .hold => powered n (s1.modRail r fun x => { x with state := .on, graceTimer := none, held := false })
  | .off => queueRail r cls s1
  | .queued => raiseRail r cls s1
  | .ramping => s1
  | .retryWait => s1
  | .fault => faultedOnRail n s1

/-! ### The exchange's ends and wakes -/

/-- A return to ACTIVE from OFFERED or DRAINING, up to the notice (R71 steps 1 and 2, R72). -/
def returnToActive (n : Site) (s : State) : State :=
  leftDraining (s.carrier n).power (s.carrier n).anchors (enterActive n s)

/-- Withdrawal of a carrier in OFFERED or DRAINING with a reason; nothing for a carrier in another state (R71). -/
def withdraw (n : Site) (why : Reason) (s : State) : State :=
  if (s.carrier n).power.inExchange then
    let s1 := returnToActive n s
    dispatch (s.carrier n).owner
      (post (s.carrier n).owner (.withdraw n (noticeNumber s1 n) (s.carrier n).token why) s1)
  else s

/-- Waking a carrier in ASLEEP in a class; nothing for a carrier in another state (R88, R100). -/
def wakeCarrier (n : Site) (cls : RampClass) (s : State) : State :=
  if (s.carrier n).power == .asleep then
    enterWaking n cls { s with stack := s.stack.filter (· != n) }
  else s

/-- Waking every chosen sleeper in stack order, from the top down, each whole before the next (R90). -/
def bulkWake (chosen : State → Site → Bool) (cls : RampClass) (s : State) : State :=
  forList s.stack (fun n s => if chosen s n then wakeCarrier n cls s else s) s

/-- Restoration selects a dependent of x none of whose anchors is ACTIVE (R97). -/
def restorable (x : Site) (s : State) (n : Site) : Bool := dependent s x n && !someAnchorActive s n

/-- Coverage restoration for a coverage carrier that has left ACTIVE: withdrawals ascending, then urgent wakes in stack
order (R97, R98). -/
def restoration (x : Site) (s : State) : State :=
  bulkWake (restorable x) .urgent
    (forSites (fun n s => if restorable x s n then withdraw n .coverage s else s) s)

/-- What follows a coverage carrier's exit from ACTIVE: its dependents' ripeness first, so that none of them is
dispatched (R53, R59, log entry 13), then restoration (R97). Nothing for any other exit. -/
def anchorLeaves (x : Site) (was : Carrier) (s : State) : State :=
  if was.role == .coverage && was.power == .active then restoration x (reevalDependents x s) else s

/-! ### Pins -/

/-- Adding a pin source to a carrier, with the effect its power state gives it (R7); nothing where the source is
already present. SITE and TENANT only: LINK is added at a tenant's loss (R149). -/
def addPin (src : PinSource) (n : Site) (s : State) : State :=
  if (s.carrier n).pins.has src then s
  else
    let s1 := s.modCarrier n fun c => { c with pins := c.pins.put src true }
    match (s.carrier n).power with
    | .active => unqueue n s1
    | .offered => withdraw n .pin s1
    | .draining => withdraw n .pin s1
    | .asleep => wakeCarrier n .ordinary s1
    | .waking => s1
    | .faulted => s1
    | .offline => s1

/-- Removing a pin source; when that empties the pin set, ripeness is re-evaluated (R7). -/
def removePin (src : PinSource) (n : Site) (s : State) : State :=
  if (s.carrier n).pins.has src then
    let s1 := s.modCarrier n fun c => { c with pins := c.pins.put src false }
    if (s1.carrier n).pins.isEmpty then reeval n s1 else s1
  else s

/-! ### Faults -/

/-- Adding an entry to the alert set, by its code (R156, R192). -/
def addAlert (code : Fin 10) (s : State) : State := { s with alerts := s.alerts.set code.val true }

/-- The alert entry codes of R192. -/
def railFaultCode (r : RailId) : Fin 10 := ⟨r.val, by omega⟩

def tenantLostCode : Tenant → Fin 10
  | .a => 4
  | .b => 5
  | .c => 6

def portOverrunCode : Tenant → Fin 10
  | .a => 7
  | .b => 8
  | .c => 9

/-- A carrier in service enters FAULTED with a cause (R151 steps 1 and 2): it leaves its queue and the stack, its offer
ends without withdrawal (R80), its stale timer stops, its dwell and its holdoff become absent (R32, R49, R92). -/
def takeToFaulted (n : Site) (cause : FaultCause) (s : State) : State :=
  let c := s.carrier n
  let s1 := (unqueue n s).modCarrier n fun c =>
    { c with
      power := .faulted
      cause := some cause
      staleTimer := none
      dwell := .absent
      answerTimer := none
      drainTimer := none
      holdoff := none }
  let s2 := { s1 with stack := s1.stack.filter (· != n) }
  leftExchange c.power c.owner (leftDraining c.power c.anchors s2)

/-- A power state from which a fault takes a carrier (R151, R154). -/
def Power.inService : Power → Bool
  | .active => true
  | .offered => true
  | .draining => true
  | .waking => true
  | .asleep => true
  | .offline => false
  | .faulted => false

/-- One carrier reached by the sweep of a faulted rail (R154). -/
def sweepCarrier (n : Site) (s : State) : State :=
  if (s.carrier n).power.inService then
    let s1 := takeToFaulted n .rail s
    anchorLeaves n (s.carrier n) (post (s.carrier n).owner (.faulted n (noticeNumber s1 n)) s1)
  else s

/-- The sweep of the carriers on a faulted rail, ascending (R154). -/
def sweepRail (r : RailId) (s : State) : State :=
  forSites (fun n s => if (s.carrier n).provisioned && (s.carrier n).rail == r then sweepCarrier n s else s) s

/-- A rail enters FAULT (R121). -/
def enterFault (r : RailId) (s : State) : State :=
  sweepRail r (addAlert (railFaultCode r) (s.modRail r fun x =>
    { x with state := .fault, graceTimer := none, settleTimer := none, held := false }))

/-! ### Night -/

/-- What ended the night (R46). -/
inductive NightEnd where
  | window | hold
deriving DecidableEq, Repr

def NightEnd.reason : NightEnd → Reason
  | .window => .window
  | .hold => .hold

def NightEnd.cls : NightEnd → RampClass
  | .window => .ordinary
  | .hold => .urgent

/-- A tenant's offer queue is emptied, the ripe times of its carriers becoming absent (R46, R149). -/
def emptyQueue (t : Tenant) (s : State) : State :=
  (forList (s.port t).offerQueue (fun n s => s.modCarrier n fun c => { c with ripeTime := none }) s).modPort t
    fun p => { p with offerQueue := [] }

/-- The night-start event: every provisioned CAPACITY carrier is re-evaluated, ascending (R45). -/
def nightStart (s : State) : State :=
  forSites (fun n s => if (s.carrier n).provisioned && (s.carrier n).role == .capacity then reeval n s else s) s

/-- The night-end event: queues emptied, offers withdrawn ascending, sleepers woken from the top down (R46, R76, R96). -/
def nightEnd (cause : NightEnd) (s : State) : State :=
  bulkWake (fun _ _ => true) cause.cls
    (forSites (fun n s => withdraw n cause.reason s) (emptyQueue .c (emptyQueue .b (emptyQueue .a s))))

/-- Night re-evaluated after an event that could change it, given its value before (R44). -/
def renight (before : Bool) (cause : NightEnd) (s : State) : State :=
  if before && !night s then nightEnd cause s
  else if !before && night s then nightStart s
  else s

/-! ### Expiries of the bank-timed periods (R142) -/

/-- The stale timer of a carrier expires (R34, R35, R36); it is stopped by the expiry. -/
def staleExpires (n : Site) (s : State) : State :=
  let s1 := s.modCarrier n fun c => { c with staleTimer := none }
  match (s.carrier n).power with
  | .active =>
    let s2 := reeval n (s1.modCarrier n fun c => { c with stale := true, dwell := .absent })
    if (s.carrier n).role == .coverage then reevalDependents n s2 else s2
  | .offered => withdraw n .stale (s1.modCarrier n fun c => { c with stale := true })
  | .draining => s1
  | .offline => s1
  | .asleep => s1
  | .waking => s1
  | .faulted => s1

/-- A running dwell elapses; the re-evaluation follows it (R50). -/
def dwellEnds (n : Site) (s : State) : State :=
  match (s.carrier n).dwell with
  | .running st => s.modCarrier n fun c => { c with dwell := .elapsed st }
  | .elapsed _ => s
  | .absent => s

/-- A running min-awake passes, its expiry keeping the moment of entry plus the length in force (R51). -/
def minAwakeEnds (n : Site) (s : State) : State :=
  match (s.carrier n).minAwake with
  | .running e => s.modCarrier n fun c => { c with minAwake := .passed (later e (bank s).minAwake) }
  | .passed _ => s
  | .absent => s

/-- The answer timer of a carrier expires (R69). -/
def answerExpires (n : Site) (s : State) : State :=
  let s1 := s.modCarrier n fun c => { c with answerTimer := none }
  if (s.carrier n).power == .offered then withdraw n .timeout s1 else s1

/-- The drain timer of a carrier expires (R70). -/
def drainExpires (n : Site) (s : State) : State :=
  let s1 := s.modCarrier n fun c => { c with drainTimer := none }
  if (s.carrier n).power == .draining then withdraw n .timeout s1 else s1

/-- A surge holdoff ends and wakes nothing (R92). -/
def holdoffEnds (n : Site) (s : State) : State := s.modCarrier n fun c => { c with holdoff := none }

/-- The grace timer of a rail expires (R110); it is stopped by the expiry. -/
def graceExpires (r : RailId) (s : State) : State :=
  if (s.rail r).state == .hold then graceTest r s
  else s.modRail r fun x => { x with graceTimer := none }

/-- The kinds of bank-timed periods (R142). -/
inductive Period where
  | dwell | stale | minAwake | holdoff | answer | drain | grace
deriving DecidableEq, Repr

/-- The scheduler's part for one carrier when lengths change: its dwell and its min-awake, if they have ended, and then
its ripeness (R56, R143, log entry 16). -/
def schedulerEnds (kinds : List Period) (n : Site) (s : State) : State :=
  let elapsed := kinds.contains .dwell && dwellDue s n
  let passed := kinds.contains .minAwake && minAwakeDue s n
  let s1 := if elapsed then dwellEnds n s else s
  let s2 := if passed then minAwakeEnds n s1 else s1
  if elapsed || passed then reeval n s2 else s2

/-- The exchange's part for one carrier when lengths change (R143). -/
def exchangeEnds (kinds : List Period) (n : Site) (s : State) : State :=
  if kinds.contains .answer && answerDue s n then answerExpires n s
  else if kinds.contains .drain && drainDue s n then drainExpires n s
  else s

/-- The periods of the given kinds that have reached the length now in force end, block by block: load estimator,
scheduler, exchange, wake selector, rail controller (R142, R143, log entry 15). -/
def endPeriods (kinds : List Period) (s : State) : State :=
  let s1 := forSites (fun n s => if kinds.contains .stale && staleDue s n then staleExpires n s else s) s
  let s2 := forSites (schedulerEnds kinds) s1
  let s3 := forSites (exchangeEnds kinds) s2
  let s4 := forSites (fun n s => if kinds.contains .holdoff && holdoffDue s n then holdoffEnds n s else s) s3
  forRails (fun r s => if kinds.contains .grace && graceDue s r then graceExpires r s else s) s4

/-- Every kind of bank-timed period. -/
def allPeriods : List Period := [.dwell, .stale, .minAwake, .holdoff, .answer, .drain, .grace]

/-- A bank change, if the selected bank is not the one it was (R140, R142). -/
def rebank (before : Fin 2) (s : State) : State :=
  if selectedBank s = before then s else endPeriods allPeriods s

/-! ### Conditioned lines -/

/-- The debounce timer of a line expires: its conditioned level becomes its present level, and the change is handed on
to site hold (R137) or to the bank selection (R140). -/
def debounceExpires (which : InputLine) (s : State) : State :=
  let l := s.inputs.line which
  let s1 := { s with inputs := s.inputs.setLine which { l with conditioned := l.present, timer := none } }
  rebank (selectedBank s) (renight (night s) .hold s1)

/-- The comparison of a line's present level with its conditioned level (R134): the timer starts, keeps running, or
stops. -/
def Line.compare (l : Line) (now : Time) : Line :=
  if l.present == l.conditioned then { l with timer := none }
  else if l.timer.isNone then { l with timer := some now }
  else l

/-- A line after its level, its polarity or the debounce length may have changed: the comparison, and the expiry if the
length has been reached (R134, R135). -/
def recheckLine (which : InputLine) (s : State) : State :=
  let s1 := { s with inputs := s.inputs.setLine which ((s.inputs.line which).compare s.now) }
  if debounceDue s1 which then debounceExpires which s1 else s1

/-! ### The site port's response -/

/-- The result of a site request replaces the response record, and the record buffer is emptied (R179, R182). -/
def respond (a : State × Response) : State :=
  { a.1 with mgmt := { a.1.mgmt with response := a.2, buffer := [] } }

/-- A request refused with a code, changing no state (6.5 of 00_scope). -/
def refuse (code : SiteResult) (s : State) : State × Response := (s, ⟨code, []⟩)

/-- A request taken and answered OK without data. -/
def answerOk (s : State) : State × Response := (s, ⟨.ok, []⟩)

end Sys2Proof.Machine
end

