-- ==== Sys2Proof/Machine/ClockAndBanks.lean ====
section
/-! DEFINITION. Windows, clock, input lines and banks: SET_WINDOW (chapter 3); SET_TIME, SET_DIVIDER, SET_INPUTS,
SET_BANK_PARAM, SELECT_BANK, STAND_DOWN, RESUME, SECONDS_EVENT, INPUT_LEVEL_CHANGE, DEBOUNCE_EXPIRY (chapter 7). -/

namespace Sys2Proof.Machine

open Host (Outcome)

/-- SET_WINDOW (R47). -/
def setWindowRule (window enabled start stop : Nat) (s : State) : State × Response :=
  if h : window < 2 then
    match flagOf enabled with
    | none => refuse .badField s
    | some e =>
      if start ≤ 1439 && stop ≤ 1439 then
        answerOk (renight (night s) .window
          { s with clock := { s.clock with windows := s.clock.windows.set window ⟨e, start, stop⟩ } })
      else refuse .badField s
  else refuse .noSuch s

/-- SET_TIME (R132). -/
def setTimeRule (tod : Nat) (s : State) : State × Response :=
  if tod < 86400 then
    answerOk (renight (night s) .window { s with clock := { s.clock with tod := tod, valid := true } })
  else refuse .badField s

/-- SET_DIVIDER (R130): the division under way keeps its value. -/
def setDividerRule (divider : Nat) (s : State) : State × Response :=
  answerOk { s with clock := { s.clock with divider := BitVec.ofNat 16 divider } }

/-- The debounce code of R192. -/
def debounceOf (code : Nat) : Option (Fin 4) := if h : code < 4 then some ⟨code, h⟩ else none

/-- SET_INPUTS (R135): all three are written, then each line is compared, HOLD_IN first (log entry 25). -/
def setInputsRule (holdPolarity sourcePolarity debounce : Nat) (s : State) : State × Response :=
  match flagOf holdPolarity, flagOf sourcePolarity, debounceOf debounce with
  | some hp, some sp, some d =>
    answerOk (recheckLine .sourceIn (recheckLine .holdIn
      { s with
        inputs :=
          { s.inputs with
            holdIn := { s.inputs.holdIn with activeLow := hp }
            sourceIn := { s.inputs.sourceIn with activeLow := sp }
            debounce := d } }))
  | _, _, _ => refuse .badField s

/-- The parameter that a code names, as the bank holds it (R138, R192). -/
def Bank.param (b : Bank) (code : Nat) : Option Nat :=
  match code with
  | 0 => some b.shift
  | 1 => some b.weight
  | 2 => some b.sleepThreshold
  | 3 => some b.busyThreshold
  | 4 => some b.surgeThreshold
  | 5 => some b.dwell
  | 6 => some b.staleLimit
  | 7 => some b.minAwake
  | 8 => some b.surgeHoldoff
  | 9 => some b.answerTime
  | 10 => some b.drainTime
  | 11 => some b.railGrace
  | _ => none

/-- The bank with the parameter of a code written (R139). -/
def Bank.withParam (b : Bank) (code v : Nat) : Bank :=
  match code with
  | 0 => { b with shift := v }
  | 1 => { b with weight := v }
  | 2 => { b with sleepThreshold := v }
  | 3 => { b with busyThreshold := v }
  | 4 => { b with surgeThreshold := v }
  | 5 => { b with dwell := v }
  | 6 => { b with staleLimit := v }
  | 7 => { b with minAwake := v }
  | 8 => { b with surgeHoldoff := v }
  | 9 => { b with answerTime := v }
  | 10 => { b with drainTime := v }
  | 11 => { b with railGrace := v }
  | _ => b

/-- The ranges of R138, both ends included. -/
def paramRange (code : Nat) : Nat × Nat :=
  match code with
  | 0 => (0, 6)
  | 1 => (0, 15)
  | 2 => (0, 999)
  | 3 => (1, 1000)
  | 4 => (1, 1000)
  | 5 => (30, 3600)
  | 6 => (5, 300)
  | 7 => (0, 7200)
  | 8 => (10, 900)
  | 9 => (1, 60)
  | 10 => (10, 600)
  | 11 => (0, 600)
  | _ => (0, 0)

/-- The kind of bank-timed period whose length a parameter is; none for a report parameter (R138, R142). -/
def paramPeriods (code : Nat) : List Period :=
  match code with
  | 5 => [.dwell]
  | 6 => [.stale]
  | 7 => [.minAwake]
  | 8 => [.holdoff]
  | 9 => [.answer]
  | 10 => [.drain]
  | 11 => [.grace]
  | _ => []

/-- The third check of R139: T_s stays below T_b. -/
def thresholdsOrdered (b : Bank) (code v : Nat) : Bool :=
  match code with
  | 2 => v < b.busyThreshold
  | 3 => b.sleepThreshold < v
  | _ => true

/-- A parameter is written; if it changes in the selected bank, the periods it times take the new length (R139, R142). -/
def writeParam (b : Fin 2) (code v : Nat) (s : State) : State :=
  let s1 := { s with banks := { s.banks with bank := s.banks.bank.set b.val (s.banks.bank[b.val].withParam code v) } }
  if selectedBank s = b && s.banks.bank[b.val].param code != some v then endPeriods (paramPeriods code) s1 else s1

/-- SET_BANK_PARAM (R139). -/
def setBankParamRule (bk code v : Nat) (s : State) : State × Response :=
  if h : bk < 2 then
    if 12 ≤ code then refuse .noSuch s
    else if v < (paramRange code).1 || (paramRange code).2 < v then refuse .badField s
    else if !thresholdsOrdered s.banks.bank[bk] code v then refuse .badField s
    else answerOk (writeParam ⟨bk, h⟩ code v s)
  else refuse .noSuch s

/-- SELECT_BANK (R140). -/
def selectBankRule (mode : Nat) (s : State) : State × Response :=
  match modeOf mode with
  | none => refuse .badField s
  | some m => answerOk (rebank (selectedBank s) { s with banks := { s.banks with mode := m } })

/-- The stand-down latch is written; site hold may begin or end (R136, R137). -/
def writeStandDown (v : Bool) (s : State) : State :=
  renight (night s) .hold { s with inputs := { s.inputs with standDown := v } }

def standDownRule (s : State) : State × Response := answerOk (writeStandDown true s)

def resumeRule (s : State) : State × Response := answerOk (writeStandDown false s)

/-- A rail at a seconds event: a dark rail's tally is raised (R126). -/
def Rail.tallySecond (x : Rail) : Rail :=
  if x.state.dark then { x with offSeconds := satSucc Config.tallyMax x.offSeconds } else x

/-- The ticks left of the present second pass, and the seconds event advances t (R131, log entry 3). -/
def Clock.endSecond (c : Clock) : Clock :=
  { c with
    now := c.now + BitVec.ofNat 48 (1000 - c.subTicks)
    subTicks := 0
    tod := if c.tod + 1 < 86400 then c.tod + 1 else 0
    divInForce := c.divider }

/-- The seconds event: t, the tallies of the dark rails, then night (R126, R131, log entry 33). -/
def secondPasses (s : State) : State :=
  renight (night s) .window
    (forRails (fun r s => s.modRail r Rail.tallySecond) { s with clock := s.clock.endSecond })

/-- One tick that completes no second (R129, R131). -/
def Clock.tick (c : Clock) : Clock := { c with now := c.now + 1, subTicks := c.subTicks + 1, divInForce := c.divider }

def execSetWindow (window enabled start stop : Nat) (s : State) : Outcome State Fault Refusal :=
  .next (respond (setWindowRule window enabled start stop s))

def execSetTime (tod : Nat) (s : State) : Outcome State Fault Refusal := .next (respond (setTimeRule tod s))

def execSetDivider (divider : Nat) (s : State) : Outcome State Fault Refusal :=
  .next (respond (setDividerRule divider s))

def execSetInputs (holdPolarity sourcePolarity debounce : Nat) (s : State) : Outcome State Fault Refusal :=
  .next (respond (setInputsRule holdPolarity sourcePolarity debounce s))

def execSetBankParam (bk code v : Nat) (s : State) : Outcome State Fault Refusal :=
  .next (respond (setBankParamRule bk code v s))

def execSelectBank (mode : Nat) (s : State) : Outcome State Fault Refusal := .next (respond (selectBankRule mode s))

def execStandDown (s : State) : Outcome State Fault Refusal := .next (respond (standDownRule s))

def execResume (s : State) : Outcome State Fault Refusal := .next (respond (resumeRule s))

def execSecondsEvent (s : State) : Outcome State Fault Refusal := .next (secondPasses s)

/-- INPUT_LEVEL_CHANGE: the line stands at a level from now on (R134). -/
def execInputLevelChange (line : InputLine) (level : Bool) (s : State) : Outcome State Fault Refusal :=
  .next (recheckLine line { s with inputs := s.inputs.setLine line { s.inputs.line line with level := level } })

/-- DEBOUNCE_EXPIRY: nothing before the line's debounce timer has reached its length (R134, log entry 2). -/
def execDebounceExpiry (line : InputLine) (s : State) : Outcome State Fault Refusal :=
  .next (if debounceDue s line then debounceExpires line s else s)

end Sys2Proof.Machine
end

