-- ==== Sys2Proof/Machine/Estimator.lean ====
section
/-! DEFINITION. The load estimator: what a taken LOAD does, and the expiry of the stale timer (chapter 2), with the
surge that a report hands to the wake selector (R91). -/

namespace Sys2Proof.Machine

/-- The effective load L of a report (R24). -/
def effectiveLoad (b : Bank) (util users : Nat) : Nat := min 1000 (min util 1000 + b.weight * users)

/-- The smoothing step of a seeded S towards 16 L, the quotient truncated toward zero (R26). -/
def smooth (k : Nat) (old target : Nat) : Nat := ((old : Int) + Int.tdiv ((target : Int) - (old : Int)) (2 ^ k)).toNat

/-- The new S of a carrier at a taken report: seeded, re-seeded when stale, or stepped (R25, R26, R38). -/
def newLoad (b : Bank) (c : Carrier) (level : Nat) : Nat :=
  match c.load with
  | none => 16 * level
  | some old => if c.stale then 16 * level else smooth b.shift old (16 * level)

/-- Primary class of a report (R28). -/
inductive LoadClass where
  | below | band | busy
deriving DecidableEq, Repr

/-- The effective sleep threshold T_s′ of a carrier (R28). -/
def sleepThreshold (b : Bank) (trim : Int) : Nat := (max 0 (min 1000 ((b.sleepThreshold : Int) + trim))).toNat

/-- The primary class of a new S (R28). -/
def classify (b : Bank) (trim : Int) (load : Nat) : LoadClass :=
  if 16 * b.busyThreshold ≤ load then .busy
  else if load < 16 * sleepThreshold b trim then .below
  else .band

/-- The surge test (R29). -/
def surges (b : Bank) (c : Carrier) (load : Nat) : Bool := c.role == .coverage && 16 * b.surgeThreshold ≤ load

/-- The dwell of a carrier after a report of a class is taken for it (R48, R49): it starts or is cancelled only for a
CAPACITY carrier in ACTIVE. -/
def dwellAfter (c : Carrier) (cls : LoadClass) (now : Time) : Dwell :=
  if c.role == .capacity && c.power == .active then
    match cls with
    | .below => match c.dwell with
      | .absent => .running now
      | .running st => .running st
      | .elapsed st => .elapsed st
    | .band => c.dwell
    | .busy => .absent
  else c.dwell

/-- The scheduler takes a report's class (R30, R31, R53): `before` is the record before the report, and ripeness is
re-evaluated only where one of its inputs changed. -/
def scheduleReport (n : Site) (before : Carrier) (cls : LoadClass) (s : State) : State :=
  let s1 := s.modCarrier n fun c => { c with dwell := dwellAfter before cls s.now }
  let inputs := before.load.isNone || before.stale
  if inputs || (s1.carrier n).dwell != before.dwell then
    let s2 := reeval n s1
    if before.role == .coverage && inputs then reevalDependents n s2 else s2
  else s1

/-- A surge on x, examined by the wake selector (R91): suspended, held off, or acted on for the topmost sleeper that
lists x. -/
def surge (x : Site) (s : State) : State :=
  if drainingDependents s x ≠ 0 then s
  else if (s.carrier x).holdoff.isSome then s
  else
    match s.stack.find? fun n => (s.carrier n).anchors.contains x with
    | none => s
    | some n => (wakeCarrier n .ordinary s).modCarrier x fun c => { c with holdoff := some s.now }

/-- The estimator's own change at a taken report (R30): S, the stale flag, the stale timer. -/
def takeReport (n : Site) (load : Nat) (s : State) : State :=
  s.modCarrier n fun c => { c with load := some load, stale := false, staleTimer := some s.now }

/-- A LOAD taken for a carrier in ACTIVE, OFFERED or DRAINING (R30): estimator, scheduler, exchange, wake selector. -/
def report (n : Site) (util users : Nat) (s : State) : State :=
  let before := s.carrier n
  let b := bank s
  let load := newLoad b before (effectiveLoad b util users)
  let cls := classify b before.trim load
  let s1 := scheduleReport n before cls (takeReport n load s)
  let s2 := if cls == .busy && before.power.inExchange then withdraw n .busy s1 else s1
  if surges b before load then surge n s2 else s2

end Sys2Proof.Machine
end

