-- ==== Sys2Proof/Machine/Requests.lean ====
section
/-! DEFINITION. The tenant requests, as a port takes them (R168): LOAD (R22), ACCEPT, DECLINE, DRAINED (R64 to R67), WAKE
(R94), KEEP, UNKEEP (R21), FAULT (R151), CLEAR (R152), QUERY (R170), and the request of unknown kind. -/

namespace Sys2Proof.Machine

open Host (Outcome)

/-- What a rule answers: the state after, the result, and the data of a QUERY. -/
structure Answer where
  state : State
  result : TenantResult
  data : Option QueryData

def Answer.refused (code : TenantResult) (s : State) : Answer := ⟨s, code, none⟩

def Answer.taken (s : State) : Answer := ⟨s, .ok, none⟩

/-- LOAD, translated (R22). -/
def loadRule (util users : Nat) (n : Site) (s : State) : Answer :=
  match (s.carrier n).power with
  | .active => .taken (report n util users s)
  | .offered => .taken (report n util users s)
  | .draining => .taken (report n util users s)
  | .offline => .refused .wrongState s
  | .waking => .refused .wrongState s
  | .asleep => .refused .wrongState s
  | .faulted => .refused .wrongState s

/-- The token of an answer is the carrier's (R64). -/
def tokenMatches (s : State) (n : Site) (token : Nat) : Bool := (s.carrier n).token.toNat == token

/-- The move to DRAINING (R65). -/
def startDrain (n : Site) (s : State) : State :=
  s.modCarrier n fun c => { c with power := .draining, answerTimer := none, drainTimer := some s.now }

/-- ACCEPT, translated (R64, R65). -/
def acceptRule (token : Nat) (n : Site) (s : State) : Answer :=
  if (s.carrier n).power == .offered && tokenMatches s n token then .taken (startDrain n s)
  else .refused .staleToken s

/-- DECLINE, translated (R64, R66). -/
def declineRule (token : Nat) (n : Site) (s : State) : Answer :=
  if (s.carrier n).power.inExchange && tokenMatches s n token then
    .taken (dispatch (s.carrier n).owner (returnToActive n s))
  else .refused .staleToken s

/-- The move to ASLEEP (R67): timers stopped, anchors' drains ended (R83, R84), the freed slot dispatched, the rail's
need re-examined, the carrier pushed on the sleep stack (R87). -/
def fallAsleep (n : Site) (s : State) : State :=
  let c := s.carrier n
  let s1 := s.modCarrier n fun c =>
    { c with power := .asleep, answerTimer := none, drainTimer := none, staleTimer := none }
  let s2 := dispatch c.owner (endOfDrain c.anchors s1)
  let s3 := needFalls c.rail s2
  { s3 with stack := n :: s3.stack }

/-- DRAINED, translated (R64, R67). -/
def drainedRule (token : Nat) (n : Site) (s : State) : Answer :=
  if (s.carrier n).power.inExchange && tokenMatches s n token then .taken (fallAsleep n s)
  else .refused .staleToken s

/-- WAKE, translated (R94). -/
def wakeRule (n : Site) (s : State) : Answer :=
  match (s.carrier n).power with
  | .asleep => .taken (wakeCarrier n .ordinary s)
  | .offered => .taken (withdraw n .busy s)
  | .draining => .taken (withdraw n .busy s)
  | .active => .taken s
  | .waking => .taken s
  | .offline => .refused .wrongState s
  | .faulted => .refused .wrongState s

/-- KEEP, translated (R21). -/
def keepRule (n : Site) (s : State) : Answer :=
  if (s.carrier n).power == .offline then .refused .wrongState s else .taken (addPin .tenant n s)

/-- UNKEEP, translated (R21). -/
def unkeepRule (n : Site) (s : State) : Answer :=
  if (s.carrier n).power == .offline then .refused .wrongState s else .taken (removePin .tenant n s)

/-- A tenant FAULT of a carrier in service, in the order of R151. -/
def tenantFault (n : Site) (s : State) : State :=
  let c := s.carrier n
  anchorLeaves n c (railLoses c.power c.rail (takeToFaulted n .tenant s))

/-- FAULT, translated (R151). -/
def faultRule (n : Site) (s : State) : Answer :=
  if (s.carrier n).power.inService then .taken (tenantFault n s) else .refused .wrongState s

/-- A carrier FAULTED with cause TENANT (R152). -/
def clearable (s : State) (n : Site) : Bool := (s.carrier n).power == .faulted && (s.carrier n).cause == some .tenant

/-- CLEAR, translated (R152). -/
def clearRule (n : Site) (s : State) : Answer :=
  if clearable s n then .taken (enterWaking n .ordinary s) else .refused .wrongState s

/-- QUERY, translated (R170). -/
def queryRule (n : Site) (s : State) : Answer :=
  let c := s.carrier n
  ⟨s, .ok, some ⟨c.power, c.load, c.stale, c.pins, c.token⟩⟩

/-- A request of a known kind handled whole: translation, unused bytes, rule, REPLY (R168 steps 2 to 5, R169). A LOAD
that was taken has no REPLY; `silent` marks the kind LOAD. -/
def handle (t : Tenant) (kind num unused : Nat) (silent : Bool) (rule : Site → State → Answer) (s : State) : State :=
  match translate s t num with
  | .error code => post t (.reply kind code num none none) s
  | .ok n =>
    if unused = 0 then
      let a := rule n s
      if silent && a.result == .ok then a.state
      else post t (.reply kind a.result num (lowestLocal a.state t n) a.data) a.state
    else post t (.reply kind .badValue num (lowestLocal s t n) none) s

/-- A request is taken only while the tenant is LINKED and a reply slot is free (R168); otherwise it waits, and its
command changes nothing (log entry 9). -/
def whenTaken (t : Tenant) (f : State → State) (s : State) : State := if (s.port t).canTake then f s else s

def handleLoad (t : Tenant) (num util users unused : Nat) : State → State :=
  handle t 0x01 num unused true (loadRule util users)

def handleAccept (t : Tenant) (num token unused : Nat) : State → State :=
  handle t 0x02 num unused false (acceptRule token)

def handleDecline (t : Tenant) (num token unused : Nat) : State → State :=
  handle t 0x03 num unused false (declineRule token)

def handleDrained (t : Tenant) (num token unused : Nat) : State → State :=
  handle t 0x04 num unused false (drainedRule token)

def handleWake (t : Tenant) (num unused : Nat) : State → State := handle t 0x05 num unused false wakeRule

def handleKeep (t : Tenant) (num unused : Nat) : State → State := handle t 0x06 num unused false keepRule

def handleUnkeep (t : Tenant) (num unused : Nat) : State → State := handle t 0x07 num unused false unkeepRule

def handleFault (t : Tenant) (num unused : Nat) : State → State := handle t 0x08 num unused false faultRule

def handleClear (t : Tenant) (num unused : Nat) : State → State := handle t 0x09 num unused false clearRule

def handleQuery (t : Tenant) (num unused : Nat) : State → State := handle t 0x0A num unused false queryRule

/-- A taken request of unknown kind is refused with BAD_KIND before anything else (R168 step 1). -/
def handleUnknown (t : Tenant) (kind num : Nat) (s : State) : State :=
  post t (.reply kind .badKind num none none) s

/-- The handling of the tenant command that a request stands for; `decodeRequest` gives no other command. -/
def handleRequest (i : Instr) (s : State) : State :=
  match i with
  | .load t num util users unused => handleLoad t num util users unused s
  | .accept t num token unused => handleAccept t num token unused s
  | .decline t num token unused => handleDecline t num token unused s
  | .drained t num token unused => handleDrained t num token unused s
  | .wake t num unused => handleWake t num unused s
  | .keep t num unused => handleKeep t num unused s
  | .unkeep t num unused => handleUnkeep t num unused s
  | .fault t num unused => handleFault t num unused s
  | .clear t num unused => handleClear t num unused s
  | .query t num unused => handleQuery t num unused s
  | .unknownTenantRequest t kind num => handleUnknown t kind num s
  | _ => s

/-- Taking requests from the head of the FIFO, at most k of them (R168). -/
def takeUpTo : Nat → Tenant → State → State
  | 0, _, s => s
  | k + 1, t, s =>
    match (s.port t).fifo with
    | [] => s
    | q :: rest =>
      if (s.port t).canTake then
        takeUpTo k t (handleRequest (decodeRequest t q) (s.modPort t fun p => { p with fifo := rest }))
      else s

/-- A try to take requests, until the FIFO is empty or a condition fails (R168). -/
def takeRequests (t : Tenant) (s : State) : State := takeUpTo (s.port t).fifo.length t s

def execLoad (t : Tenant) (num util users unused : Nat) (s : State) : Outcome State Fault Refusal :=
  .next (whenTaken t (handleLoad t num util users unused) s)

def execAccept (t : Tenant) (num token unused : Nat) (s : State) : Outcome State Fault Refusal :=
  .next (whenTaken t (handleAccept t num token unused) s)

def execDecline (t : Tenant) (num token unused : Nat) (s : State) : Outcome State Fault Refusal :=
  .next (whenTaken t (handleDecline t num token unused) s)

def execDrained (t : Tenant) (num token unused : Nat) (s : State) : Outcome State Fault Refusal :=
  .next (whenTaken t (handleDrained t num token unused) s)

def execWake (t : Tenant) (num unused : Nat) (s : State) : Outcome State Fault Refusal :=
  .next (whenTaken t (handleWake t num unused) s)

def execKeep (t : Tenant) (num unused : Nat) (s : State) : Outcome State Fault Refusal :=
  .next (whenTaken t (handleKeep t num unused) s)

def execUnkeep (t : Tenant) (num unused : Nat) (s : State) : Outcome State Fault Refusal :=
  .next (whenTaken t (handleUnkeep t num unused) s)

def execFault (t : Tenant) (num unused : Nat) (s : State) : Outcome State Fault Refusal :=
  .next (whenTaken t (handleFault t num unused) s)

def execClear (t : Tenant) (num unused : Nat) (s : State) : Outcome State Fault Refusal :=
  .next (whenTaken t (handleClear t num unused) s)

def execQuery (t : Tenant) (num unused : Nat) (s : State) : Outcome State Fault Refusal :=
  .next (whenTaken t (handleQuery t num unused) s)

def execUnknownTenantRequest (t : Tenant) (kind num : Nat) (s : State) : Outcome State Fault Refusal :=
  .next (whenTaken t (handleUnknown t kind num) s)

end Sys2Proof.Machine
end

