-- ==== Sys2Proof/Machine/Supervision.lean ====
section
/-! DEFINITION. The link supervisor and the alert unit: entering LINKED, LOST and DISABLED, SET_PORT, LINK_WINDOW_EXPIRY,
CLEAR_FAULT naming a carrier, ACK_ALERT (chapter 8), and the clearing of a disabled port (R175). -/

namespace Sys2Proof.Machine

open Host (Outcome)

/-- The link window timer as it starts: not at all with a window of 0 (R146). -/
def startWindow (p : Port) (now : Time) : Option Time := if p.linkWindow = 0 then none else some now

/-- The LINK pin source on every carrier a tenant owns, for those a test picks (R7). -/
def setLinkPins (t : Tenant) (v : Bool) (which : Carrier → Bool) (s : State) : State :=
  forSites (fun n s =>
    if (s.carrier n).owner == t && which (s.carrier n) then
      s.modCarrier n fun c => { c with pins := c.pins.put .link v }
    else s) s

/-- Re-evaluation of every carrier a tenant owns, ascending (R53, R148). -/
def reevalOwned (t : Tenant) (s : State) : State :=
  forSites (fun n s => if (s.carrier n).provisioned && (s.carrier n).owner == t then reeval n s else s) s

/-- A tenant enters LINKED (R148); the port then tries its FIFO (R168, log entry 11). -/
def enterLinked (t : Tenant) (s : State) : State :=
  let s1 := s.modPort t fun p => { p with link := .linked, windowTimer := startWindow p s.now }
  takeRequests t (reevalOwned t (setLinkPins t false (fun _ => true) s1))

/-- A tenant enters LOST or DISABLED (R149): its timer stopped, its queue emptied, LINK pins, withdrawals ascending,
urgent wakes from the top of the stack. -/
def enterSilent (t : Tenant) (state : LinkState) (s : State) : State :=
  let s1 := s.modPort t fun p => { p with link := state, windowTimer := none }
  let s2 := setLinkPins t true (fun c => c.power != .offline) (emptyQueue t s1)
  let s3 := forSites (fun n s =>
    if (s.carrier n).provisioned && (s.carrier n).owner == t then withdraw n .link s else s) s2
  bulkWake (fun s n => (s.carrier n).provisioned && (s.carrier n).owner == t) .urgent s3

/-- The port's own state on entry to DISABLED (R175); the frame error count, the values of SET_PORT and SET_SLICES and
the TSEL line are not touched. -/
def Port.cleared (p : Port) : Port :=
  { p with
    windowTimer := none
    offerQueue := []
    fifo := []
    notices := []
    latch := none
    overrun := false
    transfer := .idle
    stallTimer := none }

/-- A tenant enters DISABLED (R149, R175). -/
def enterDisabled (t : Tenant) (s : State) : State := (enterSilent t .disabled s).modPort t Port.cleared

/-- Link window and drain slots are written (R147). -/
def writePort (t : Tenant) (window slots : Nat) (s : State) : State :=
  s.modPort t fun p => { p with linkWindow := window, drainSlots := slots }

/-- The effect of a taken SET_PORT by the port's present state and the enable value (R147). -/
def setPortEffect (t : Tenant) (en : Bool) (window slots : Nat) (s : State) : State :=
  match (s.port t).link == .disabled, en with
  | true, false => writePort t window slots s
  | true, true => enterLinked t (writePort t window slots s)
  | false, true => s
  | false, false => writePort t window slots (enterDisabled t s)

/-- SET_PORT (R147). -/
def setPortRule (tenant enabled window slots : Nat) (s : State) : State × Response :=
  match tenantOf tenant, flagOf enabled with
  | some t, some en =>
    let p := s.port t
    if window = 1 || 60 < window || slots = 0 || 4 < slots then refuse .badField s
    else if p.link != .disabled && en && (window != p.linkWindow || slots != p.drainSlots) then refuse .wrongState s
    else answerOk (setPortEffect t en window slots s)
  | _, _ => refuse .badField s

/-- Expiry of a running link window timer (R146): LOST, and TENANT_LOST in the alert set; it is stopped in any case. -/
def linkWindowExpires (t : Tenant) (s : State) : State :=
  if (s.port t).link == .linked then addAlert (tenantLostCode t) (enterSilent t .lost s)
  else s.modPort t fun p => { p with windowTimer := none }

/-- CLEAR_FAULT naming a carrier (R152). -/
def clearFaultCarrierRule (n : Nat) (s : State) : State × Response :=
  match (siteOf n).filter fun i => (s.carrier i).provisioned with
  | none => refuse .noSuch s
  | some i => if clearable s i then answerOk (enterWaking i .ordinary s) else refuse .wrongState s

/-- The alert set without the entries of the codes named (R157). -/
def withoutAlerts (codes : List Nat) (s : State) : State :=
  { s with alerts := codes.foldl (fun v k => if h : k < 10 then v.set k false else v) s.alerts }

/-- ACK_ALERT (R157, R192): the counted slots name entries. -/
def ackAlertRule (count : Nat) (slots : List Nat) (s : State) : State × Response :=
  let codes := slots.take count
  if count ≤ 10 && codes.all (· < 10) then answerOk (withoutAlerts codes s) else refuse .badField s

def execSetPort (tenant enabled window slots : Nat) (s : State) : Outcome State Fault Refusal :=
  .next (respond (setPortRule tenant enabled window slots s))

/-- LINK_WINDOW_EXPIRY: nothing before the timer has reached the link window (R146, log entry 2). -/
def execLinkWindowExpiry (t : Tenant) (s : State) : Outcome State Fault Refusal :=
  .next (if linkWindowDue s t then linkWindowExpires t s else s)

def execClearFaultCarrier (n : Nat) (s : State) : Outcome State Fault Refusal :=
  .next (respond (clearFaultCarrierRule n s))

def execAckAlert (count : Nat) (slots : List Nat) (s : State) : Outcome State Fault Refusal :=
  .next (respond (ackAlertRule count slots s))

end Sys2Proof.Machine
end

