-- ==== Sys2Proof/Machine/Links.lean ====
section
/-! DEFINITION. The tenant link ports' wire events: TRANSFER_START, TCLK_RISING_EDGE, STALL_TIMEOUT, FRAME_END (chapter
9). -/

namespace Sys2Proof.Machine

open Host (Outcome)

/-- The outbound frame that a port fixes at the fall of select for a latched notice (R163, R188). -/
def Port.outbound (p : Port) (latched : Option Notice) (left : Nat) : BitVec 128 :=
  shiftRegister (outboundFrame latched p.overrun left)

/-- The head notice moves into the in-flight latch and the transfer begins (R160, R161, R163). -/
def Port.startTransfer (p : Port) (now : Time) : Port :=
  { p with
    latch := p.notices.head?
    notices := p.notices.tail
    transfer := .active 0 0 (p.outbound p.notices.head? p.notices.tail.length)
    stallTimer := some now }

/-- A fall of TSEL (R160, R163): nothing while the line is low already; while the port is DISABLED only the line
falls. -/
def selectFalls (t : Tenant) (s : State) : State :=
  s.modPort t fun p =>
    if !p.tselHigh then p
    else if p.link == .disabled then { p with tselHigh := false }
    else { p.startTransfer s.now with tselHigh := false }

/-- A rising edge of TCLK in a transfer: one bit each way up to the 128th edge; the stall timer restarts up to the
127th and stops at the 128th (R159 to R161). -/
def Port.clockEdge (p : Port) (tdin : Bool) (now : Time) : Port :=
  match p.transfer with
  | .active edges inb out =>
    let inb' := if edges < 128 then inb <<< 1 ||| (BitVec.ofBool tdin).setWidth 128 else inb
    { p with
      transfer := .active (edges + 1) inb' out
      stallTimer := if edges + 1 ≤ 127 then some now else if edges + 1 = 128 then none else p.stallTimer }
  | .idle => p
  | .abandoned => p

/-- TCLK is watched only while the port is enabled (R160). -/
def clockRises (t : Tenant) (tdin : Bool) (s : State) : State :=
  s.modPort t fun p => if p.link == .disabled then p else p.clockEdge tdin s.now

/-- The latch at the end of an incomplete transfer (R172): a state notice that a queued one about the same carrier
replaces is discarded; any other returns to the head of the queue. -/
def Port.returnLatch (p : Port) : Port :=
  match p.latch with
  | none => p
  | some x =>
    if x.about.isSome && p.notices.any (fun y => y.about == x.about) then { p with latch := none }
    else { p with latch := none, notices := x :: p.notices }

/-- Expiry of a running stall timer: the transfer is abandoned (R161, R172). -/
def stallExpires (t : Tenant) (s : State) : State :=
  s.modPort t fun p =>
    match p.transfer with
    | .active _ _ _ => { p.returnLatch with transfer := .abandoned, stallTimer := none }
    | .idle => { p with stallTimer := none }
    | .abandoned => { p with stallTimer := none }

/-- R164 step 1 for a complete transfer: the latched notice has been delivered; a REPLY frees its slot, and the port
tries its FIFO (R168, R172, log entry 11). -/
def deliver (t : Tenant) (s : State) : State :=
  let s1 := s.modPort t fun p => { p with latch := none }
  if (s.port t).latch.any Notice.isReply then takeRequests t s1 else s1

/-- R164 step 3: the link window restarts, or LOST ends (R146, R148). -/
def linkHeard (t : Tenant) (s : State) : State :=
  match (s.port t).link with
  | .linked => s.modPort t fun p => { p with windowTimer := startWindow p s.now }
  | .lost => enterLinked t s
  | .disabled => s

/-- RESYNC (R167). -/
def Port.resync (p : Port) : Port :=
  { p with overrun := false, fifo := [], notices := p.notices.filter fun x => !x.isReply }

/-- R164 step 4 for a kind that is neither POLL nor RESYNC (R165, R166). -/
def arrive (t : Tenant) (q : Request) (s : State) : State :=
  let p := s.port t
  if p.overrun then s
  else if p.fifo.length < Config.fifoDepth then s.modPort t fun p => { p with fifo := p.fifo ++ [q] }
  else addAlert (portOverrunCode t) (s.modPort t fun p => { p with overrun := true })

/-- R164 step 4 (R165, R167, R189). -/
def frameKind (t : Tenant) (q : Request) (s : State) : State :=
  if q.kind = 0x00 then s
  else if q.kind = 0x0F then s.modPort t Port.resync
  else arrive t q s

/-- R164 steps 3 to 5 for a frame that passes. -/
def framePassed (t : Tenant) (q : Request) (s : State) : State :=
  takeRequests t (frameKind t q (linkHeard t s))

/-- A frame that fails its test raises the frame error count (R162). -/
def frameFailed (t : Tenant) (s : State) : State :=
  s.modPort t fun p => { p with frameErrors := satSucc Config.frameErrorMax p.frameErrors }

/-- The end of a transfer under way, by the edges seen (R160, R164). -/
def endTransfer (t : Tenant) (edges : Nat) (inb : BitVec 128) (s : State) : State :=
  let s1 := s.modPort t fun p => { p with transfer := .idle, stallTimer := none }
  if edges < 128 then s1.modPort t Port.returnLatch
  else
    let s2 := deliver t s1
    if framePasses inb then framePassed t (frameRequest inb) s2 else frameFailed t s2

/-- A rise of TSEL (R160, R161, R164): nothing while the line is high already, nothing but the line's level where no
transfer is under way; an abandoned transfer ends. -/
def selectRises (t : Tenant) (s : State) : State :=
  if (s.port t).tselHigh then s
  else
    let s1 := s.modPort t fun p => { p with tselHigh := true }
    match (s.port t).transfer with
    | .idle => s1
    | .abandoned => s1.modPort t fun p => { p with transfer := .idle }
    | .active edges inb _ => endTransfer t edges inb s1

def execTransferStart (t : Tenant) (s : State) : Outcome State Fault Refusal := .next (selectFalls t s)

def execTclkRisingEdge (t : Tenant) (tdin : Bool) (s : State) : Outcome State Fault Refusal :=
  .next (clockRises t tdin s)

/-- STALL_TIMEOUT: nothing before the stall timer has reached 5 ms (R161, log entry 2). -/
def execStallTimeout (t : Tenant) (s : State) : Outcome State Fault Refusal :=
  .next (if stallDue s t then stallExpires t s else s)

def execFrameEnd (t : Tenant) (s : State) : Outcome State Fault Refusal := .next (selectRises t s)

end Sys2Proof.Machine
end

