-- ==== Sys2Proof/Machine/Provisioning.lean ====
section
/-! DEFINITION. The carrier table's site requests: SET_CARRIER, CLEAR_CARRIER, ENABLE, DISABLE, PIN, UNPIN, SET_SLICES
(chapter 1). Each rule answers the state after and the response; its command puts the response in the record. -/

namespace Sys2Proof.Machine

open Host (Outcome)

/-- A provisioned record named by number (R12). -/
def provisionedSite (s : State) (n : Nat) : Option Site :=
  (siteOf n).filter fun i => (s.carrier i).provisioned

/-- Record n is listed as an anchor by another provisioned record (R13, R15). -/
def listedByOther (s : State) (n : Site) : Bool :=
  allSites.any fun m => m != n && (s.carrier m).provisioned && (s.carrier m).anchors.contains n

/-- The conditions on one anchor number of a CAPACITY record n of an owner (R13 step 3). -/
def anchorFits (s : State) (n : Site) (owner : Tenant) (a : Nat) : Bool :=
  match siteOf a with
  | none => false
  | some x => x != n && (s.carrier x).provisioned && (s.carrier x).role == .coverage && (s.carrier x).owner == owner

/-- The anchor list of a SET_CARRIER: the first `count` slots, as site numbers. -/
def anchorSites (slots : List Nat) : List Site := slots.filterMap siteOf

/-- The last condition of R13 step 3: a record others list keeps its role COVERAGE and its owner. -/
def dependentsKept (s : State) (n : Site) (owner : Tenant) (role : Role) : Bool :=
  !(listedByOther s n && (role == .capacity || owner != (s.carrier n).owner))

/-- The anchor conditions of R13 step 3 for the role requested. -/
def anchorsFit (s : State) (n : Site) (owner : Tenant) (role : Role) (anchors : List Nat) : Bool :=
  match role with
  | .coverage => anchors.isEmpty
  | .capacity => anchors.all (anchorFits s n owner) && anchors.Nodup

/-- A SET_CARRIER that is taken writes the six provisioning fields and nothing else (R14). -/
def writeCarrier (n : Site) (owner : Tenant) (role : Role) (rail : RailId) (anchors : List Site) (trim : Int)
    (s : State) : State :=
  s.modCarrier n fun c =>
    { c with provisioned := true, owner := owner, role := role, rail := rail, anchors := anchors, trim := trim }

/-- SET_CARRIER (R13, R14). -/
def setCarrierRule (n owner role rail count a0 a1 a2 : Nat) (trim : Int) (s : State) : State × Response :=
  match siteOf n with
  | none => refuse .noSuch s
  | some i =>
    if (s.carrier i).provisioned && (s.carrier i).power != .offline then refuse .wrongState s
    else
      match tenantOf owner, roleOf role, railOf rail with
      | some t, some ro, some ra =>
        let anchors := [a0, a1, a2].take count
        if count ≤ 3 && decide (-8 ≤ trim ∧ trim ≤ 7) && anchorsFit s i t ro anchors && dependentsKept s i t ro then
          answerOk (writeCarrier i t ro ra (anchorSites anchors) trim s)
        else refuse .badField s
      | _, _, _ => refuse .badField s

/-- CLEAR_CARRIER (R15). The provisioning fields return to their values of R8; the rest is kept. -/
def clearCarrierRule (n : Nat) (s : State) : State × Response :=
  match provisionedSite s n with
  | none => refuse .noSuch s
  | some i =>
    if (s.carrier i).power != .offline then refuse .wrongState s
    else if listedByOther s i then refuse .badField s
    else
      answerOk (s.modCarrier i fun c =>
        { c with
          provisioned := false
          owner := Carrier.reset.owner
          role := Carrier.reset.role
          rail := Carrier.reset.rail
          anchors := Carrier.reset.anchors
          trim := Carrier.reset.trim })

/-- One of a tenant's slice pointers names the slice of a site number (R16). -/
def visible (s : State) (t : Tenant) (n : Site) : Bool :=
  (s.port t).p0 == some (sliceOf n) || (s.port t).p1 == some (sliceOf n)

/-- The LINK pin that a carrier takes at its ENABLE while its owner is LOST or DISABLED (R16). -/
def enablePins (s : State) (n : Site) : State :=
  if (s.port (s.carrier n).owner).link == .linked then s
  else s.modCarrier n fun c => { c with pins := c.pins.put .link true }

/-- ENABLE (R16). -/
def enableRule (n : Nat) (s : State) : State × Response :=
  match provisionedSite s n with
  | none => refuse .noSuch s
  | some i =>
    let c := s.carrier i
    if c.power != .offline then refuse .wrongState s
    else if c.role == .capacity && c.anchors.isEmpty then refuse .badField s
    else if !visible s c.owner i then refuse .notVisible s
    else answerOk (enterWaking i .ordinary (enablePins s i))

/-- A carrier's dynamic fields after a DISABLE (R17): OFFLINE, everything absent but the offer token. -/
def Carrier.disabled (c : Carrier) : Carrier :=
  { c with
    power := .offline
    cause := none
    pins := PinSet.empty
    load := none
    stale := false
    staleTimer := none
    dwell := .absent
    minAwake := .absent
    answerTimer := none
    drainTimer := none
    holdoff := none }

/-- The record's own part of a DISABLE: it leaves queue and stack, its fields are reset, its OFFLINE notice is posted
(R17). -/
def takeOffline (n : Site) (s : State) : State :=
  let s1 := (unqueue n s).modCarrier n Carrier.disabled
  let s2 := { s1 with stack := s1.stack.filter (· != n) }
  post (s.carrier n).owner (.offline n (noticeNumber s2 n)) s2

/-- DISABLE of a carrier in service or FAULTED, with the consequences of R18 in its order. -/
def disableCarrier (n : Site) (s : State) : State :=
  let c := s.carrier n
  let s1 := takeOffline n s
  let s2 := railLoses c.power c.rail s1
  let s3 := leftExchange c.power c.owner s2
  anchorLeaves n c (leftDraining c.power c.anchors s3)

/-- DISABLE (R17, R18). -/
def disableRule (n : Nat) (s : State) : State × Response :=
  match provisionedSite s n with
  | none => refuse .noSuch s
  | some i => if (s.carrier i).power == .offline then answerOk s else answerOk (disableCarrier i s)

/-- PIN (R20). -/
def pinRule (n : Nat) (s : State) : State × Response :=
  match provisionedSite s n with
  | none => refuse .noSuch s
  | some i => if (s.carrier i).power == .offline then refuse .wrongState s else answerOk (addPin .site i s)

/-- UNPIN (R20). -/
def unpinRule (n : Nat) (s : State) : State × Response :=
  match provisionedSite s n with
  | none => refuse .noSuch s
  | some i => if (s.carrier i).power == .offline then refuse .wrongState s else answerOk (removePin .site i s)

/-- A carrier of the tenant in service lies in a slice that neither new pointer names (R19). -/
def wouldHide (s : State) (t : Tenant) (p0 p1 : Option Slice) : Bool :=
  allSites.any fun n =>
    (s.carrier n).provisioned && (s.carrier n).owner == t && (s.carrier n).power != .offline
      && p0 != some (sliceOf n) && p1 != some (sliceOf n)

/-- SET_SLICES (R19). -/
def setSlicesRule (tenant p0 p1 : Nat) (s : State) : State × Response :=
  match tenantOf tenant, pointerOf p0, pointerOf p1 with
  | some t, some q0, some q1 =>
    if (s.port t).link != .disabled then refuse .wrongState s
    else if wouldHide s t q0 q1 then refuse .notVisible s
    else answerOk (s.modPort t fun p => { p with p0 := q0, p1 := q1 })
  | _, _, _ => refuse .badField s

def execSetCarrier (n owner role rail count a0 a1 a2 : Nat) (trim : Int) (s : State) : Outcome State Fault Refusal :=
  .next (respond (setCarrierRule n owner role rail count a0 a1 a2 trim s))

def execClearCarrier (n : Nat) (s : State) : Outcome State Fault Refusal := .next (respond (clearCarrierRule n s))

def execEnable (n : Nat) (s : State) : Outcome State Fault Refusal := .next (respond (enableRule n s))

def execDisable (n : Nat) (s : State) : Outcome State Fault Refusal := .next (respond (disableRule n s))

def execPin (n : Nat) (s : State) : Outcome State Fault Refusal := .next (respond (pinRule n s))

def execUnpin (n : Nat) (s : State) : Outcome State Fault Refusal := .next (respond (unpinRule n s))

def execSetSlices (tenant p0 p1 : Nat) (s : State) : Outcome State Fault Refusal :=
  .next (respond (setSlicesRule tenant p0 p1 s))

end Sys2Proof.Machine
end

