-- ==== Sys2Proof/Machine/Rails.lean ====
section
/-! DEFINITION. The rail controller's requests and events: SET_RAIL, SET_BIAS, CLEAR_FAULT_RAIL, CLEAR_TALLY,
GRACE_EXPIRY, SETTLE_EXPIRY, RETRY_WAIT_EXPIRY, POWER_GOOD_FALL (chapter 6). -/

namespace Sys2Proof.Machine

open Host (Outcome)

/-- SET_RAIL (R125). -/
def setRailRule (rail idlePower breakEven settleFull settleReduced : Nat) (s : State) : State × Response :=
  match railOf rail with
  | none => refuse .noSuch s
  | some r =>
    if idlePower ≤ 400 && breakEven ≤ 3600 && 10 ≤ settleFull && settleFull ≤ 2000
        && 10 ≤ settleReduced && settleReduced ≤ 2000 then
      answerOk (s.modRail r fun x =>
        { x with
          idlePower := idlePower
          breakEven := breakEven
          settleFull := settleFull
          settleReduced := settleReduced })
    else refuse .badField s

/-- The effect of a SET_BIAS by the rail's state (R124). -/
def Rail.setBias (x : Rail) (b : Bias) : Rail :=
  if x.state.enabled then { x with pendingBias := some b } else { x with bias := b, pendingBias := none }

/-- SET_BIAS (R124). -/
def setBiasRule (rail cls : Nat) (s : State) : State × Response :=
  match railOf rail with
  | none => refuse .noSuch s
  | some r =>
    match biasOf cls with
    | none => refuse .badField s
    | some b => answerOk (s.modRail r fun x => x.setBias b)

/-- CLEAR_FAULT naming a rail (R122). -/
def clearFaultRailRule (rail : Nat) (s : State) : State × Response :=
  match railOf rail with
  | none => refuse .noSuch s
  | some r =>
    if (s.rail r).state != .fault then refuse .wrongState s
    else
      answerOk (forSites (fun n s =>
        if (s.carrier n).provisioned && (s.carrier n).rail == r && (s.carrier n).power == .faulted
            && (s.carrier n).cause == some .rail then
          enterWaking n .urgent s
        else s) (s.modRail r fun x => { x with state := .off, retry := false }))

/-- Both tallies of a rail at 0 (R126). -/
def Rail.clearTally (x : Rail) : Rail := { x with offSeconds := 0, rampCount := 0 }

/-- CLEAR_TALLY (R126). -/
def clearTallyRule (rail : Nat) (s : State) : State × Response :=
  if rail = 0xFF then answerOk (forRails (fun r s => s.modRail r Rail.clearTally) s)
  else
    match railOf rail with
    | none => refuse .noSuch s
    | some r => answerOk (s.modRail r Rail.clearTally)

/-- A rail has entered ON: every carrier on it in WAKING becomes ACTIVE, ascending (R101). -/
def powerCarriers (r : RailId) (s : State) : State :=
  forSites (fun n s =>
    if (s.carrier n).provisioned && (s.carrier n).rail == r && (s.carrier n).power == .waking then powered n s else s) s

/-- A ramp succeeds (R117). -/
def rampSucceeds (r : RailId) (s : State) : State :=
  let s1 := s.modRail r fun x => { x with settleTimer := none, retry := false }
  let s2 :=
    if needCount s1 r = 0 then enterHold r s1
    else powerCarriers r (s1.modRail r fun x => { x with state := .on })
  releaseSlot s2

/-- A ramp fails: the first time the rail waits and tries again (R118), the second time it enters FAULT (R120). -/
def rampFails (r : RailId) (s : State) : State :=
  if (s.rail r).retry then releaseSlot (enterFault r s)
  else
    releaseSlot (s.modRail r fun x =>
      { x with state := .retryWait, settleTimer := none, retry := true, retryTimer := some s.now })

/-- The part is told the level of RAIL_PG at the present moment. -/
def tellPowerGood (r : RailId) (level : Bool) (s : State) : State :=
  s.modRail r fun x => { x with powerGood := level, toldAt := some s.now }

/-- Expiry of a running settle timer with RAIL_PG at a level (R117): in RAMPING the level is sampled, and a fall of this
moment has made it low (R123); the timer is stopped in any case. -/
def settleExpires (r : RailId) (level : Bool) (s : State) : State :=
  let good := sampledPowerGood s r level
  let s1 := tellPowerGood r good s
  if (s.rail r).state == .ramping then
    if good then rampSucceeds r s1 else rampFails r s1
  else s1.modRail r fun x => { x with settleTimer := none }

/-- Expiry of a running retry wait timer (R119). -/
def retryExpires (r : RailId) (s : State) : State :=
  let s1 := s.modRail r fun x => { x with retryTimer := none }
  if (s.rail r).state == .retryWait then
    if needCount s r = 0 then s1.modRail r fun x => { x with state := .off }
    else queueRail r .urgent s1
  else s1

/-- A fall of RAIL_PG (R121): on a rail in ON or HOLD at once FAULT; elsewhere only the line's level changes. -/
def powerFalls (r : RailId) (s : State) : State :=
  let s1 := tellPowerGood r false s
  if (s.rail r).state == .on || (s.rail r).state == .hold then enterFault r s1 else s1

def execSetRail (rail idlePower breakEven settleFull settleReduced : Nat) (s : State) : Outcome State Fault Refusal :=
  .next (respond (setRailRule rail idlePower breakEven settleFull settleReduced s))

def execSetBias (rail cls : Nat) (s : State) : Outcome State Fault Refusal := .next (respond (setBiasRule rail cls s))

def execClearFaultRail (rail : Nat) (s : State) : Outcome State Fault Refusal :=
  .next (respond (clearFaultRailRule rail s))

def execClearTally (rail : Nat) (s : State) : Outcome State Fault Refusal := .next (respond (clearTallyRule rail s))

/-- GRACE_EXPIRY: nothing before the rail's grace timer has reached its length (R110, log entry 2). -/
def execGraceExpiry (r : RailId) (s : State) : Outcome State Fault Refusal :=
  .next (if graceDue s r then graceExpires r s else s)

/-- SETTLE_EXPIRY with a level of RAIL_PG: nothing before the rail's settle timer has reached its
length (R117, log entries 2 and 5). -/
def execSettleExpiry (r : RailId) (level : Bool) (s : State) : Outcome State Fault Refusal :=
  .next (if settleDue s r then settleExpires r level s else s)

/-- RETRY_WAIT_EXPIRY: nothing before the rail's retry wait timer has reached 2 s (R119, log entry 2). -/
def execRetryWaitExpiry (r : RailId) (s : State) : Outcome State Fault Refusal :=
  .next (if retryDue s r then retryExpires r s else s)

def execPowerGoodFall (r : RailId) (s : State) : Outcome State Fault Refusal := .next (powerFalls r s)

end Sys2Proof.Machine
end

