-- ==== Sys2Proof/Machine/Readout.lean ====
section
/-! DEFINITION. The read requests and the data of their responses: READ_CARRIER (R183), READ_RAIL (R184), READ_TENANT
(R185), READ_SITE, READ_TALLY (R186), laid out as R193 gives them. -/

namespace Sys2Proof.Machine

open Host (Outcome)

/-- A list of one-byte numbers cut or filled with 0xFF to a length (R193). -/
def paddedBytes (len : Nat) (vs : List Nat) : List Byte := ((vs ++ List.replicate len 0xFF).take len).map byteOf

/-- The position of a value in a list, the head being 1. -/
def positionIn {α : Type} [BEq α] (l : List α) (x : α) : Option Nat := (l.idxOf? x).map (· + 1)

/-- The response data of READ_CARRIER, 68 bytes (R183, R193). The local number of an unprovisioned record, which translation
does not reach (R1), is the model's choice: it is given whenever a pointer of its owner field names its slice (log
entry 34). -/
def carrierData (s : State) (n : Site) : List Byte :=
  let c := s.carrier n
  let isCoverage := c.role == .coverage
  [byteOf c.provisioned.toNat, byteOf (tenantCode c.owner), byteOf c.role.code, byteOf c.rail.val, byteOf c.anchors.length]
    ++ paddedBytes 3 (c.anchors.map Fin.val)
    ++ [BitVec.ofInt 8 c.trim]
    ++ [byteOf (orAbsent (lowestLocal s c.owner n)), byteOf c.power.code, byteOf (orAbsent (c.cause.map FaultCause.code)),
        byteOf c.pins.code]
    ++ beBytes 2 (loadCode c.load)
    ++ [byteOf c.stale.toNat]
    ++ timeBytes c.staleTimer ++ timeBytes c.dwell.start ++ timeBytes (minAwakeExpiry s c.minAwake) ++ timeBytes c.ripeTime
    ++ [c.token]
    ++ timeBytes c.answerTimer ++ timeBytes c.drainTimer
    ++ [byteOf (orAbsent (if c.power == .asleep then positionIn s.stack n else none)),
        byteOf (if isCoverage then drainingDependents s n else 0)]
    ++ timeBytes (if isCoverage then holdoffExpiry s c else none)

/-- The response data of READ_RAIL, 44 bytes (R184, R193). That an asserted RAIL_EN reads 1 as its level is the model's choice
(log entry 35). -/
def railData (s : State) (r : RailId) : List Byte :=
  let x := s.rail r
  let queued := x.state == .queued
  beBytes 2 x.idlePower ++ beBytes 2 x.breakEven ++ beBytes 2 x.settleFull ++ beBytes 2 x.settleReduced
    ++ [byteOf x.bias.code, byteOf (orAbsent (x.pendingBias.map Bias.code)), byteOf x.state.code,
        byteOf (orAbsent (if queued then (s.ramp.classOf r).map RampClass.code else none)),
        byteOf (orAbsent (if queued then positionIn s.ramp.queue r else none)),
        byteOf (needCount s r),
        byteOf (bitsCode [x.retry, x.held, x.state.enabled, presentPowerGood s r])]
    ++ timeBytes x.graceTimer ++ timeBytes (x.settleTimer.map Prod.fst) ++ timeBytes x.retryTimer
    ++ beBytes 4 x.offSeconds ++ beBytes 4 x.rampCount

/-- A slice pointer's byte (R192). -/
def pointerCode (p : Option Slice) : Nat := orAbsent (p.map Fin.val)

/-- The response data of READ_TENANT, 37 bytes (R185, R193). -/
def tenantData (s : State) (t : Tenant) : List Byte :=
  let p := s.port t
  [byteOf p.link.code, byteOf (p.link != .disabled).toNat, byteOf p.linkWindow]
    ++ timeBytes p.windowTimer
    ++ [byteOf (pointerCode p.p0), byteOf (pointerCode p.p1), byteOf p.drainSlots, byteOf (outstanding s t),
        byteOf p.offerQueue.length]
    ++ paddedBytes 15 (p.offerQueue.map Fin.val)
    ++ beBytes 2 p.frameErrors
    ++ [byteOf p.overrun.toNat, byteOf p.fifo.length, byteOf (p.notices.countP fun x => !x.isReply),
        byteOf (p.notices.countP Notice.isReply), byteOf p.latch.isSome.toNat]

/-- A window record's bytes (R193). -/
def windowBytes (w : Window) : List Byte := byteOf w.enabled.toNat :: (beBytes 2 w.start ++ beBytes 2 w.stop)

/-- An input line's byte (R193). That a present or conditioned level which is active reads 1 is the model's choice (log
entry 36). -/
def lineByte (l : Line) : Byte := byteOf (bitsCode [l.activeLow, l.present, l.conditioned, l.timer.isSome])

/-- The ramp queue's bytes, head first: rail in bits 1 and 0, class in bit 7 (R193). -/
def rampQueueBytes (q : Ramp) : List Byte :=
  paddedBytes 4 (q.urgent.map (fun r => 128 * RampClass.urgent.code + r.val)
    ++ q.ordinary.map (fun r => 128 * RampClass.ordinary.code + r.val))

/-- The response data of READ_SITE, 39 bytes (R186, R193). -/
def siteData (s : State) : List Byte :=
  beBytes 3 s.clock.tod
    ++ [byteOf (bitsCode [s.clock.valid, night s, s.inputs.standDown, siteHold s, alertN s])]
    ++ beBytes 3 (remaining s)
    ++ windowBytes s.clock.windows[0] ++ windowBytes s.clock.windows[1]
    ++ beBytes 2 s.clock.divider.toNat ++ beBytes 6 s.now.toNat
    ++ [lineByte s.inputs.holdIn, lineByte s.inputs.sourceIn]
    ++ [byteOf s.inputs.debounce.val, byteOf s.banks.mode.code, byteOf (selectedBank s).val]
    ++ [byteOf s.ramp.queue.length] ++ rampQueueBytes s.ramp
    ++ [byteOf (orAbsent (s.ramp.slot.map Fin.val)), byteOf s.stack.length]
    ++ beBytes 2 (bitsCode s.alerts.toList)

/-- The saved energy of the site in watt-hours: the sum of the rails' own (R127). -/
def siteSavedWh (s : State) : Nat := (allRails.map fun r => (s.rail r).savedWh).sum

/-- The response data of READ_TALLY, 52 bytes (R186, R193). -/
def tallyData (s : State) : List Byte :=
  allRails.flatMap (fun r =>
    beBytes 4 (s.rail r).offSeconds ++ beBytes 4 (s.rail r).rampCount ++ beBytes 4 (s.rail r).savedWh)
    ++ beBytes 4 (siteSavedWh s)

/-- READ_CARRIER (R183): an unprovisioned record is read like any other. -/
def readCarrierRule (n : Nat) (s : State) : State × Response :=
  match siteOf n with
  | none => refuse .noSuch s
  | some i => (s, ⟨.ok, carrierData s i⟩)

/-- READ_RAIL (R184). The response takes the level of RAIL_PG as it stands, for which the free value of this read is used up
(log entry 5); no state of the part changes. -/
def readRailRule (rail : Nat) (s : State) : State × Response :=
  match railOf rail with
  | none => refuse .noSuch s
  | some r => ({ s with envReads := s.envReads + 1 }, ⟨.ok, railData s r⟩)

/-- READ_TENANT (R185). -/
def readTenantRule (tenant : Nat) (s : State) : State × Response :=
  match tenantOf tenant with
  | none => refuse .badField s
  | some t => (s, ⟨.ok, tenantData s t⟩)

/-- READ_SITE (R186). -/
def readSiteRule (s : State) : State × Response := (s, ⟨.ok, siteData s⟩)

/-- READ_TALLY (R186). -/
def readTallyRule (s : State) : State × Response := (s, ⟨.ok, tallyData s⟩)

def execReadCarrier (n : Nat) (s : State) : Outcome State Fault Refusal := .next (respond (readCarrierRule n s))

def execReadRail (rail : Nat) (s : State) : Outcome State Fault Refusal := .next (respond (readRailRule rail s))

def execReadTenant (tenant : Nat) (s : State) : Outcome State Fault Refusal :=
  .next (respond (readTenantRule tenant s))

def execReadSite (s : State) : Outcome State Fault Refusal := .next (respond (readSiteRule s))

def execReadTally (s : State) : Outcome State Fault Refusal := .next (respond (readTallyRule s))

end Sys2Proof.Machine
end

