-- ==== Sys2Proof/Machine/Timers.lean ====
section
/-! DEFINITION. The expiries of a carrier's timers and periods: STALE_TIMER_EXPIRY (R33), DWELL_ELAPSES (R50),
MIN_AWAKE_PASSES (R51), ANSWER_TIMER_EXPIRY (R69), DRAIN_TIMER_EXPIRY (R70), SURGE_HOLDOFF_ENDS (R92). Each happens when
its timer has reached its length (6.3 of 00_scope); the command is nothing at any other moment (log entry 2). -/

namespace Sys2Proof.Machine

open Host (Outcome)

def execStaleTimerExpiry (n : Site) (s : State) : Outcome State Fault Refusal :=
  .next (if staleDue s n then staleExpires n s else s)

def execAnswerTimerExpiry (n : Site) (s : State) : Outcome State Fault Refusal :=
  .next (if answerDue s n then answerExpires n s else s)

def execDrainTimerExpiry (n : Site) (s : State) : Outcome State Fault Refusal :=
  .next (if drainDue s n then drainExpires n s else s)

def execDwellElapses (n : Site) (s : State) : Outcome State Fault Refusal :=
  .next (if dwellDue s n then reeval n (dwellEnds n s) else s)

def execMinAwakePasses (n : Site) (s : State) : Outcome State Fault Refusal :=
  .next (if minAwakeDue s n then reeval n (minAwakeEnds n s) else s)

def execSurgeHoldoffEnds (n : Site) (s : State) : Outcome State Fault Refusal :=
  .next (if holdoffDue s n then holdoffEnds n s else s)

end Sys2Proof.Machine
end

