-- ==== Sys2Proof/Machine/SitePort.lean ====
section
/-! DEFINITION. The site management port's wire events: I2C_START_CONDITION, I2C_STOP_CONDITION, I2C_DATA_BYTE, SCL_EDGE,
BUS_TIMEOUT, and MALFORMED_SITE_RECORD (chapter 10); and POWER_ON_RESET. -/

namespace Sys2Proof.Machine

open Host (Outcome)

/-- The code that refuses a record naming no request (R179 steps 2 to 4; the target of CLEAR_FAULT, R182). -/
def malformedCode (bytes : List Byte) : SiteResult :=
  match bytes with
  | kind :: len :: fields =>
    if len.toNat ≠ fields.length then .badLength
    else
      match recordLength kind.toNat with
      | none => .badKind
      | some l => if l = fields.length then .badField else .badLength
  | _ => .badLength

/-- The rule of a site request; `decodeRecord` gives no other command (R179 step 5, R182). -/
def siteRule (i : Instr) (s : State) : State × Response :=
  match i with
  | .setCarrier n o ro ra k x y z tr => setCarrierRule n o ro ra k x y z tr s
  | .clearCarrier n => clearCarrierRule n s
  | .enable n => enableRule n s
  | .disable n => disableRule n s
  | .pin n => pinRule n s
  | .unpin n => unpinRule n s
  | .setSlices t p q => setSlicesRule t p q s
  | .setRail r i b f d => setRailRule r i b f d s
  | .setBias r c => setBiasRule r c s
  | .clearFaultCarrier n => clearFaultCarrierRule n s
  | .clearFaultRail r => clearFaultRailRule r s
  | .setWindow w e x y => setWindowRule w e x y s
  | .setTime t => setTimeRule t s
  | .setDivider d => setDividerRule d s
  | .setInputs h c d => setInputsRule h c d s
  | .setBankParam b p v => setBankParamRule b p v s
  | .selectBank m => selectBankRule m s
  | .standDown => standDownRule s
  | .resume => resumeRule s
  | .setPort t e w d => setPortRule t e w d s
  | .ackAlert c slots => ackAlertRule c slots s
  | .clearTally r => clearTallyRule r s
  | .readCarrier n => readCarrierRule n s
  | .readRail r => readRailRule r s
  | .readTenant t => readTenantRule t s
  | .readSite => readSiteRule s
  | .readTally => readTallyRule s
  | .malformedSiteRecord bytes => refuse (malformedCode bytes) s
  | _ => (s, s.mgmt.response)

/-- Processing a record: nothing for an empty one, else its rule and its response (R179). -/
def processRecord (bytes : List Byte) (s : State) : State :=
  if bytes.isEmpty then s else respond (siteRule (decodeRecord bytes) s)

/-- A write that a START or STOP ends is processed (R179); no other transaction is. -/
def endWrite (s : State) : State :=
  match s.mgmt.txn with
  | .receiving => processRecord s.mgmt.buffer s
  | .idle => s
  | .sending _ _ => s
  | .ignoring => s

/-- The port after the address byte of a START (R177): SCL is high at the condition, so no bus timer runs (R181). -/
def Mgmt.addressed (m : Mgmt) (address : Nat) (read : Bool) : Mgmt :=
  if address = m.address then
    if read then { m with txn := .sending 0 false, buffer := [], busTimer := none, sclHigh := true, sda := .ack }
    else { m with txn := .receiving, buffer := [], busTimer := none, sclHigh := true, sda := .ack }
  else { m with txn := .ignoring, buffer := [], busTimer := none, sclHigh := true, sda := .released }

/-- A START or repeated START with its address byte (R177): the write it ends is processed first (R179). -/
def startCondition (address : Nat) (read : Bool) (s : State) : State :=
  let s1 := endWrite s
  { s1 with mgmt := s1.mgmt.addressed address read }

/-- A STOP (R177). -/
def stopCondition (s : State) : State :=
  let s1 := endWrite s
  { s1 with
    mgmt := { s1.mgmt with txn := .idle, buffer := [], busTimer := none, sclHigh := true, sda := .released } }

/-- The bytes of the response record, in order (R180). -/
def responseBytes (r : Response) : List Byte := byteOf r.result.code :: byteOf r.data.length :: r.data

/-- A data byte (R178, R180). While receiving it is appended and acknowledged, or refused past 32 bytes; while sending
the next byte of the response record is driven, 0xFF past its end, until the master leaves one unacknowledged. -/
def Mgmt.dataByte (m : Mgmt) (byte : Byte) (masterAck : Bool) : Mgmt :=
  match m.txn with
  | .receiving =>
    if m.buffer.length < Config.recordBytes then { m with buffer := m.buffer ++ [byte], sda := .ack }
    else { m with sda := .released }
  | .sending k released =>
    if released then { m with sda := .released }
    else
      { m with
        txn := .sending (k + 1) !masterAck
        sda := .data ((responseBytes m.response).getD k 0xFF) }
  | .idle => m
  | .ignoring => m

/-- An edge of SCL: while receiving or sending, a fall starts the bus timer and a rise stops it (R181). -/
def Mgmt.sclEdge (m : Mgmt) (rising : Bool) (now : Time) : Mgmt :=
  match m.txn with
  | .receiving => { m with sclHigh := rising, busTimer := if rising then none else some now }
  | .sending _ _ => { m with sclHigh := rising, busTimer := if rising then none else some now }
  | .idle => { m with sclHigh := rising }
  | .ignoring => { m with sclHigh := rising }

/-- Expiry of a running bus timer (R181): the transaction is abandoned. -/
def Mgmt.abandon (m : Mgmt) : Mgmt :=
  match m.txn with
  | .receiving => { m with txn := .idle, buffer := [], busTimer := none, sda := .released }
  | .sending _ _ => { m with txn := .idle, buffer := [], busTimer := none, sda := .released }
  | .idle => { m with busTimer := none }
  | .ignoring => { m with busTimer := none }

/-- Power-on reset with ADDR[2:0] at a level: every field at its reset value; the input pins keep the levels the outside
drives (R134, log entry 8), and a conditioned line that shows active starts its debounce timer. -/
def powerOnReset (addr : Nat) (s : State) : State :=
  let s0 := State.reset
  let s1 : State :=
    { s0 with
      inputs := ⟨Line.reset s.inputs.holdIn.level, Line.reset s.inputs.sourceIn.level, 1, false⟩
      rails := #v[Rail.reset (s.rail 0).powerGood, Rail.reset (s.rail 1).powerGood,
        Rail.reset (s.rail 2).powerGood, Rail.reset (s.rail 3).powerGood]
      ports := ⟨Port.reset s.ports.a.tselHigh, Port.reset s.ports.b.tselHigh, Port.reset s.ports.c.tselHigh⟩
      mgmt := Mgmt.reset addr s.mgmt.sclHigh
      envReads := s.envReads
      pending := s.pending }
  recheckLine .sourceIn (recheckLine .holdIn s1)

def execPowerOnReset (addr : Nat) (s : State) : Outcome State Fault Refusal := .next (powerOnReset addr s)

/-- MALFORMED_SITE_RECORD: a written record is processed and refused (R179); one that does name a request is processed
as that request (log entry 31). -/
def execMalformedSiteRecord (bytes : List Byte) (s : State) : Outcome State Fault Refusal :=
  .next (processRecord bytes s)

def execI2cStartCondition (address : Nat) (read : Bool) (s : State) : Outcome State Fault Refusal :=
  .next (startCondition address read s)

def execI2cStopCondition (s : State) : Outcome State Fault Refusal := .next (stopCondition s)

def execI2cDataByte (byte : Byte) (masterAck : Bool) (s : State) : Outcome State Fault Refusal :=
  .next { s with mgmt := s.mgmt.dataByte byte masterAck }

def execSclEdge (rising : Bool) (s : State) : Outcome State Fault Refusal :=
  .next { s with mgmt := s.mgmt.sclEdge rising s.now }

/-- BUS_TIMEOUT: nothing before the bus timer has reached 25 ms (R181, log entry 2). -/
def execBusTimeout (s : State) : Outcome State Fault Refusal :=
  .next (if busDue s then { s with mgmt := s.mgmt.abandon } else s)

end Sys2Proof.Machine
end

