-- ==== Sys2Proof/Machine/Idle.lean ====
section
/-! DEFINITION. What the part does by itself when no command waits: the expiry that is due, else the next tick of the
time base (R129, R131, 6.3 of 00_scope; log entries 1 and 4). -/

namespace Sys2Proof.Machine

/-- The expiry due on a tenant's port: stall timer, then link window. -/
def portExpiry (s : State) (t : Tenant) : Option Instr :=
  if stallDue s t then some (.stallTimeout t)
  else if linkWindowDue s t then some (.linkWindowExpiry t)
  else none

/-- The expiry due on an input line. -/
def lineExpiry (s : State) (l : InputLine) : Option Instr :=
  if debounceDue s l then some (.debounceExpiry l) else none

/-- The expiry due for a carrier. -/
def carrierExpiry (s : State) (n : Site) : Option Instr :=
  if staleDue s n then some (.staleTimerExpiry n)
  else if dwellDue s n then some (.dwellElapses n)
  else if minAwakeDue s n then some (.minAwakePasses n)
  else if answerDue s n then some (.answerTimerExpiry n)
  else if drainDue s n then some (.drainTimerExpiry n)
  else if holdoffDue s n then some (.surgeHoldoffEnds n)
  else none

/-- The expiry due on a rail; the level the outside brings to RAIL_PG is a free value (log entry 5). -/
def railExpiry (s : State) (r : RailId) : Option Instr :=
  if graceDue s r then some (.graceExpiry r)
  else if settleDue s r then some (.settleExpiry r (Config.railPowerGood s.envReads))
  else if retryDue s r then some (.retryWaitExpiry r)
  else none

/-- The expiry that is due now, the first in the order of log entry 4. -/
def nextExpiry (s : State) : Option Instr :=
  if busDue s then some .busTimeout
  else
    ([Tenant.a, .b, .c].findSome? (portExpiry s)).or <|
      ([InputLine.holdIn, .sourceIn].findSome? (lineExpiry s)).or <|
        (allSites.findSome? (carrierExpiry s)).or (allRails.findSome? (railExpiry s))

/-- The command the part gives itself with an empty queue: the expiry that is due, else the seconds event when the next
tick completes a second (R131); none when a plain tick is next. -/
def idleCommand (s : State) : Option Instr :=
  match nextExpiry s with
  | some i => some i
  | none => if s.clock.subTicks + 1 < 1000 then none else some .secondsEvent

/-- The counter of free line levels moves on when a settle expiry has read one (log entry 5). -/
def countRead (i : Instr) (s : State) : State :=
  match i with
  | .settleExpiry _ _ => { s with envReads := s.envReads + 1 }
  | _ => s

/-- One tick of the time base that completes no second (R129). -/
def idleTick (s : State) : State := { s with clock := s.clock.tick }

end Sys2Proof.Machine
end

