-- ==== Sys2Proof/Machine/Dispatch.lean ====
section
/-! DEFINITION. One arm for each command: a direct call of its meaning. -/

namespace Sys2Proof.Machine

def exec (i : Instr) (s : State) : Host.Outcome State Fault Refusal :=
  match i with
  | .powerOnReset addr => Sys2Proof.Machine.execPowerOnReset addr s
  | .setCarrier n owner role rail count anchor0 anchor1 anchor2 trim => Sys2Proof.Machine.execSetCarrier n owner role rail count anchor0 anchor1 anchor2 trim s
  | .clearCarrier n => Sys2Proof.Machine.execClearCarrier n s
  | .enable n => Sys2Proof.Machine.execEnable n s
  | .disable n => Sys2Proof.Machine.execDisable n s
  | .pin n => Sys2Proof.Machine.execPin n s
  | .unpin n => Sys2Proof.Machine.execUnpin n s
  | .setSlices tenant p0 p1 => Sys2Proof.Machine.execSetSlices tenant p0 p1 s
  | .setRail rail idlePower breakEven settleFull settleReduced => Sys2Proof.Machine.execSetRail rail idlePower breakEven settleFull settleReduced s
  | .setBias rail cls => Sys2Proof.Machine.execSetBias rail cls s
  | .clearFaultCarrier n => Sys2Proof.Machine.execClearFaultCarrier n s
  | .clearFaultRail rail => Sys2Proof.Machine.execClearFaultRail rail s
  | .setWindow window enabled start stop => Sys2Proof.Machine.execSetWindow window enabled start stop s
  | .setTime tod => Sys2Proof.Machine.execSetTime tod s
  | .setDivider divider => Sys2Proof.Machine.execSetDivider divider s
  | .setInputs holdPolarity sourcePolarity debounce => Sys2Proof.Machine.execSetInputs holdPolarity sourcePolarity debounce s
  | .setBankParam bank param value => Sys2Proof.Machine.execSetBankParam bank param value s
  | .selectBank mode => Sys2Proof.Machine.execSelectBank mode s
  | .standDown => Sys2Proof.Machine.execStandDown s
  | .resume => Sys2Proof.Machine.execResume s
  | .setPort tenant enable linkWindow drainSlots => Sys2Proof.Machine.execSetPort tenant enable linkWindow drainSlots s
  | .ackAlert count slots => Sys2Proof.Machine.execAckAlert count slots s
  | .clearTally rail => Sys2Proof.Machine.execClearTally rail s
  | .readCarrier n => Sys2Proof.Machine.execReadCarrier n s
  | .readRail rail => Sys2Proof.Machine.execReadRail rail s
  | .readTenant tenant => Sys2Proof.Machine.execReadTenant tenant s
  | .readSite => Sys2Proof.Machine.execReadSite s
  | .readTally => Sys2Proof.Machine.execReadTally s
  | .malformedSiteRecord bytes => Sys2Proof.Machine.execMalformedSiteRecord bytes s
  | .busTimeout => Sys2Proof.Machine.execBusTimeout s
  | .transferStart t => Sys2Proof.Machine.execTransferStart t s
  | .stallTimeout t => Sys2Proof.Machine.execStallTimeout t s
  | .frameEnd t => Sys2Proof.Machine.execFrameEnd t s
  | .load t num util users unused => Sys2Proof.Machine.execLoad t num util users unused s
  | .accept t num token unused => Sys2Proof.Machine.execAccept t num token unused s
  | .decline t num token unused => Sys2Proof.Machine.execDecline t num token unused s
  | .drained t num token unused => Sys2Proof.Machine.execDrained t num token unused s
  | .wake t num unused => Sys2Proof.Machine.execWake t num unused s
  | .keep t num unused => Sys2Proof.Machine.execKeep t num unused s
  | .unkeep t num unused => Sys2Proof.Machine.execUnkeep t num unused s
  | .fault t num unused => Sys2Proof.Machine.execFault t num unused s
  | .clear t num unused => Sys2Proof.Machine.execClear t num unused s
  | .query t num unused => Sys2Proof.Machine.execQuery t num unused s
  | .unknownTenantRequest t kind num => Sys2Proof.Machine.execUnknownTenantRequest t kind num s
  | .linkWindowExpiry t => Sys2Proof.Machine.execLinkWindowExpiry t s
  | .staleTimerExpiry n => Sys2Proof.Machine.execStaleTimerExpiry n s
  | .answerTimerExpiry n => Sys2Proof.Machine.execAnswerTimerExpiry n s
  | .drainTimerExpiry n => Sys2Proof.Machine.execDrainTimerExpiry n s
  | .dwellElapses n => Sys2Proof.Machine.execDwellElapses n s
  | .minAwakePasses n => Sys2Proof.Machine.execMinAwakePasses n s
  | .surgeHoldoffEnds n => Sys2Proof.Machine.execSurgeHoldoffEnds n s
  | .graceExpiry r => Sys2Proof.Machine.execGraceExpiry r s
  | .settleExpiry r powerGood => Sys2Proof.Machine.execSettleExpiry r powerGood s
  | .retryWaitExpiry r => Sys2Proof.Machine.execRetryWaitExpiry r s
  | .secondsEvent => Sys2Proof.Machine.execSecondsEvent s
  | .inputLevelChange line level => Sys2Proof.Machine.execInputLevelChange line level s
  | .debounceExpiry line => Sys2Proof.Machine.execDebounceExpiry line s
  | .powerGoodFall r => Sys2Proof.Machine.execPowerGoodFall r s
  | .tclkRisingEdge t tdin => Sys2Proof.Machine.execTclkRisingEdge t tdin s
  | .i2cStartCondition address read => Sys2Proof.Machine.execI2cStartCondition address read s
  | .i2cStopCondition => Sys2Proof.Machine.execI2cStopCondition s
  | .i2cDataByte byte masterAck => Sys2Proof.Machine.execI2cDataByte byte masterAck s
  | .sclEdge rising => Sys2Proof.Machine.execSclEdge rising s

end Sys2Proof.Machine
end

