-- ==== Sys2Proof/Safety.lean ====
section
/-! DEFINITION. The terms in which the claims speak: what the consequences of an event leave alone, and the laws that the
manual says hold at all times. -/

namespace Sys2Proof.Machine

/-! ### What the consequences of an event leave alone -/

/-- What a record keeps when carriers and rails move: the provisioning fields, which only SET_CARRIER and CLEAR_CARRIER
write (R1), and the pin set (R7). -/
def Carrier.lasting (c : Carrier) : Bool × Tenant × Role × RailId × List Site × Int × PinSet :=
  (c.provisioned, c.owner, c.role, c.rail, c.anchors, c.trim, c.pins)

/-- What a rail keeps when carriers move on it: its configuration, its retry, its tally of seconds and its line. -/
def Rail.lasting (x : Rail) : Nat × Nat × Nat × Nat × Bool × Option Time × Nat × Bool × Option Time :=
  (x.idlePower, x.breakEven, x.settleFull, x.settleReduced, x.retry, x.retryTimer, x.offSeconds, x.powerGood, x.toldAt)

/-- A port but for its notice queue and its offer queue. -/
def Port.lasting (p : Port) : Port := { p with notices := [], offerQueue := [] }

/-- The state t differs from s only in what carriers, rails and notices do to one another within one event: the dynamic
fields of the carriers but their pins, the stack, the states and bias of the rails, the ramp queue, the offer queues and the notices. -/
structure Cascade (s t : State) : Prop where
  clock : t.clock = s.clock
  inputs : t.inputs = s.inputs
  banks : t.banks = s.banks
  alerts : t.alerts = s.alerts
  mgmt : t.mgmt = s.mgmt
  envReads : t.envReads = s.envReads
  pending : t.pending = s.pending
  carriers : ∀ n, (t.carrier n).lasting = (s.carrier n).lasting
  rails : ∀ r, (t.rail r).lasting = (s.rail r).lasting
  ports : ∀ u, (t.port u).lasting = (s.port u).lasting

/-! ### Laws of the settings -/

/-- A bank within the ranges of R138 and the order of R139. -/
abbrev BankOk (b : Bank) : Prop :=
  b.shift ≤ 6 ∧ b.weight ≤ 15 ∧ b.sleepThreshold ≤ 999 ∧ (1 ≤ b.busyThreshold ∧ b.busyThreshold ≤ 1000)
    ∧ (1 ≤ b.surgeThreshold ∧ b.surgeThreshold ≤ 1000) ∧ (30 ≤ b.dwell ∧ b.dwell ≤ 3600)
    ∧ (5 ≤ b.staleLimit ∧ b.staleLimit ≤ 300) ∧ b.minAwake ≤ 7200 ∧ (10 ≤ b.surgeHoldoff ∧ b.surgeHoldoff ≤ 900)
    ∧ (1 ≤ b.answerTime ∧ b.answerTime ≤ 60) ∧ (10 ≤ b.drainTime ∧ b.drainTime ≤ 600) ∧ b.railGrace ≤ 600
    ∧ b.sleepThreshold < b.busyThreshold

/-- A rail's configuration and its two tallies within the ranges of R105. -/
abbrev RailSettingsOk (x : Rail) : Prop :=
  x.idlePower ≤ 400 ∧ x.breakEven ≤ 3600 ∧ (10 ≤ x.settleFull ∧ x.settleFull ≤ 2000)
    ∧ (10 ≤ x.settleReduced ∧ x.settleReduced ≤ 2000) ∧ x.offSeconds ≤ 4294967295 ∧ x.rampCount ≤ 4294967295

/-- A port's configuration within the ranges of R145. -/
abbrev PortSettingsOk (p : Port) : Prop :=
  (p.linkWindow = 0 ∨ (2 ≤ p.linkWindow ∧ p.linkWindow ≤ 60)) ∧ (1 ≤ p.drainSlots ∧ p.drainSlots ≤ 4)

/-- Every setting and count lies in the range the manual gives it (R41, R105, R131, R138, R139, R145, R176). The time base,
the divider, the tokens and the debounce code are kept in their ranges by their types; a port's counts are bounded by
`PortOk`. -/
abbrev SettingsOk (s : State) : Prop :=
  (∀ b : Fin 2, BankOk s.banks.bank[b]) ∧ (∀ w : Fin 2, s.clock.windows[w].start ≤ 1439 ∧ s.clock.windows[w].stop ≤ 1439)
    ∧ s.clock.tod < 86400 ∧ s.clock.subTicks < 1000 ∧ (∀ r, RailSettingsOk (s.rail r))
    ∧ (∀ u, PortSettingsOk (s.port u)) ∧ (0x50 ≤ s.mgmt.address ∧ s.mgmt.address ≤ 0x57) ∧ s.mgmt.buffer.length ≤ 32

/-- The three conditions on the anchor lists (R2), with the bounds of R1. -/
abbrev AnchorsOk (s : State) : Prop :=
  ∀ n : Site, (s.carrier n).provisioned = true →
    ((s.carrier n).role = .coverage → (s.carrier n).anchors = [])
      ∧ (s.carrier n).anchors.Nodup ∧ (s.carrier n).anchors.length ≤ 3
      ∧ (-8 ≤ (s.carrier n).trim ∧ (s.carrier n).trim ≤ 7)
      ∧ ∀ x ∈ (s.carrier n).anchors, x ≠ n ∧ (s.carrier x).provisioned = true ∧ (s.carrier x).role = .coverage
          ∧ (s.carrier x).owner = (s.carrier n).owner

/-! ### Laws of the carriers -/

/-- OFFERED, DRAINING and ASLEEP: where only a CAPACITY carrier may be (R5), and only at night (R46). -/
def Power.sleepward : Power → Bool
  | .offered => true
  | .draining => true
  | .asleep => true
  | .offline => false
  | .active => false
  | .waking => false
  | .faulted => false

/-- A record whose fields agree with its power state (R3, R4, R5, R27, R33, R49, R51, R61). -/
abbrev RecordOk (c : Carrier) : Prop :=
  (c.provisioned = false → c.power = .offline) ∧ (c.role = .coverage → c.power.sleepward = false)
    ∧ (c.cause.isSome = true ↔ c.power = .faulted)
    ∧ (c.answerTimer.isSome = true ↔ c.power = .offered) ∧ (c.drainTimer.isSome = true ↔ c.power = .draining)
    ∧ (c.staleTimer.isSome = true → (c.power = .active ∨ c.power = .offered ∨ c.power = .draining) ∧ c.load.isSome = true)
    ∧ (c.dwell ≠ .absent → c.power = .active ∧ c.role = .capacity) ∧ (c.minAwake ≠ .absent → c.role = .capacity)
    ∧ (c.power = .offline → c.pins = PinSet.empty ∧ c.load = none ∧ c.stale = false ∧ c.minAwake = .absent)
    ∧ ∀ v ∈ c.load, v ≤ 16000

/-- The offer queues hold ACTIVE CAPACITY carriers of their tenant, each at most once (R54). -/
abbrev QueuesOk (s : State) : Prop :=
  ∀ u : Tenant, (s.port u).offerQueue.Nodup ∧ ∀ n ∈ (s.port u).offerQueue,
    (s.carrier n).provisioned = true ∧ (s.carrier n).owner = u ∧ (s.carrier n).role = .capacity
      ∧ (s.carrier n).power = .active

/-- The sleep stack holds exactly the carriers in ASLEEP, each once (R86). -/
abbrev StackOk (s : State) : Prop := s.stack.Nodup ∧ ∀ n : Site, n ∈ s.stack ↔ (s.carrier n).power = .asleep

/-- The laws of the carriers, their queues and the stack. -/
abbrev CarriersOk (s : State) : Prop := (∀ n : Site, RecordOk (s.carrier n)) ∧ QueuesOk s ∧ StackOk s

/-- No tenant has more offers out than drain slots (R57), and a tenant that is not LINKED has no offer, no sleeper and an
empty offer queue (R54, R149). -/
abbrev SlotsOk (s : State) : Prop :=
  ∀ u : Tenant, outstanding s u ≤ (s.port u).drainSlots
    ∧ ((s.port u).link ≠ .linked → (s.port u).offerQueue = [] ∧
        ∀ n : Site, (s.carrier n).owner = u → (s.carrier n).power.sleepward = false)

/-- While night is false no carrier is OFFERED, DRAINING or ASLEEP, and every offer queue is empty (R46). -/
abbrev NightOk (s : State) : Prop :=
  night s = false → (∀ u : Tenant, (s.port u).offerQueue = []) ∧ ∀ n : Site, (s.carrier n).power.sleepward = false

/-- Every carrier in OFFERED, DRAINING or ASLEEP has an ACTIVE anchor (R77, R97), and every queued carrier a fit one
(R52). -/
abbrev CoverageOk (s : State) : Prop :=
  (∀ n : Site, (s.carrier n).power.sleepward = true → someAnchorActive s n = true)
    ∧ ∀ u : Tenant, ∀ n ∈ (s.port u).offerQueue, someAnchorFit s n = true

/-- Each tenant's offer queue holds exactly its ripe carriers (R53, R54, R55). -/
abbrev RipeOk (s : State) : Prop :=
  ∀ (u : Tenant) (n : Site), n ∈ (s.port u).offerQueue ↔ (s.carrier n).owner = u ∧ ripe s n = true

/-! ### Laws of the rails -/

/-- The ramp queue holds the rails in QUEUED, each once; the slot is held by the one rail in RAMPING and is not free while
a rail waits (R112, R116); each timer and mark belongs to its state (R105). -/
abbrev RampOk (s : State) : Prop :=
  s.ramp.queue.Nodup ∧ (s.ramp.slot = none → s.ramp.queue = [])
    ∧ ∀ r : RailId, (r ∈ s.ramp.queue ↔ (s.rail r).state = .queued)
        ∧ (s.ramp.slot = some r ↔ (s.rail r).state = .ramping)
        ∧ ((s.rail r).settleTimer.isSome = true ↔ (s.rail r).state = .ramping)
        ∧ ((s.rail r).retryTimer.isSome = true ↔ (s.rail r).state = .retryWait)
        ∧ ((s.rail r).graceTimer.isSome = true → (s.rail r).state = .hold)
        ∧ ((s.rail r).held = true → (s.rail r).state = .hold)

/-- Carriers and rails agree: a carrier in ACTIVE, OFFERED or DRAINING stands on a rail in ON, and one in WAKING on a rail in
QUEUED, RAMPING or RETRY_WAIT; a rail in ON or QUEUED has a need (R89, R101, R108, R113, R115); and the part knows the RAIL_PG
of a rail in ON or HOLD to be high (R117, R121). -/
abbrev PowerOk (s : State) : Prop :=
  (∀ n : Site, (s.carrier n).provisioned = true →
    ((s.carrier n).power = .active ∨ (s.carrier n).power.inExchange = true → (s.rail (s.carrier n).rail).state = .on)
      ∧ ((s.carrier n).power = .waking → (s.rail (s.carrier n).rail).state = .queued
          ∨ (s.rail (s.carrier n).rail).state = .ramping ∨ (s.rail (s.carrier n).rail).state = .retryWait))
    ∧ ∀ r : RailId, ((s.rail r).state = .on ∨ (s.rail r).state = .queued → 0 < needCount s r)
        ∧ ((s.rail r).state = .on ∨ (s.rail r).state = .hold → (s.rail r).powerGood = true)

/-! ### Laws of the ports -/

/-- A port within its bounds: at most one state notice about each carrier (R171), two requests (R165), eight replies in
queue and latch (R168); the latch and the stall timer belong to a transfer (R161, R172); a DISABLED port is clear (R175). -/
abbrev PortOk (p : Port) : Prop :=
  (p.notices.filterMap Notice.about).Nodup ∧ p.fifo.length ≤ 2 ∧ p.replies ≤ 8 ∧ p.frameErrors ≤ 65535
    ∧ (p.latch.isSome = true → p.transfer ≠ .idle ∧ p.transfer ≠ .abandoned)
    ∧ (p.stallTimer.isSome = true → p.transfer ≠ .idle ∧ p.transfer ≠ .abandoned)
    ∧ (p.windowTimer.isSome = true → p.link = .linked ∧ p.linkWindow ≠ 0)
    ∧ (p.link = .disabled → p.fifo = [] ∧ p.notices = [] ∧ p.latch = none ∧ p.overrun = false ∧ p.transfer = .idle
        ∧ p.offerQueue = [])

/-- Every port is within its bounds. -/
abbrev PortsOk (s : State) : Prop := ∀ u : Tenant, PortOk (s.port u)

/-! ### Words of the rules that several claims use -/

/-- The tenant, the kind code, the local number and the number formed by the unused body bytes of a tenant request that
names a carrier (R10, R189). -/
def namedRequest : Instr → Option (Tenant × Nat × Nat × Nat)
  | .load t num _ _ unused => some (t, 0x01, num, unused)
  | .accept t num _ unused => some (t, 0x02, num, unused)
  | .decline t num _ unused => some (t, 0x03, num, unused)
  | .drained t num _ unused => some (t, 0x04, num, unused)
  | .wake t num unused => some (t, 0x05, num, unused)
  | .keep t num unused => some (t, 0x06, num, unused)
  | .unkeep t num unused => some (t, 0x07, num, unused)
  | .fault t num unused => some (t, 0x08, num, unused)
  | .clear t num unused => some (t, 0x09, num, unused)
  | .query t num unused => some (t, 0x0A, num, unused)
  | _ => none

/-- The slice pointer that a local number below 16 uses (R10 step 2). -/
def pointerUsed (p : Port) (num : Nat) : Option Slice := if num < 8 then p.p0 else p.p1

/-- A SET_CARRIER to record i breaks a condition of R13 step 3: the codes, the ranges, the anchors, the dependents. -/
abbrev SetCarrierBadField (s : State) (i : Site) (owner role rail count : Nat) (slots : List Nat) (trim : Int) : Prop :=
  2 < owner ∨ 1 < role ∨ 3 < rail ∨ 3 < count ∨ (trim < -8 ∨ 7 < trim) ∨ (role = 0 ∧ count ≠ 0)
    ∨ (role = 1 ∧ (¬ (slots.take count).Nodup ∨ ∃ a ∈ slots.take count, 32 ≤ a ∨ a = i.val ∨
        ∃ x : Site, x.val = a ∧ ((s.carrier x).provisioned = false ∨ (s.carrier x).role = .capacity
          ∨ tenantCode (s.carrier x).owner ≠ owner)))
    ∨ ∃ m : Site, m ≠ i ∧ (s.carrier m).provisioned = true ∧ i ∈ (s.carrier m).anchors
        ∧ (role = 1 ∨ owner ≠ tenantCode (s.carrier i).owner)

/-- The REPLY to a tenant request that translated to site i: its kind, its result, the number it named, the lowest number
that reaches the carrier, no data (R169). -/
def replyAbout (s : State) (t : Tenant) (i : Site) (kind num : Nat) (result : TenantResult) : Notice :=
  .reply kind result num (lowestLocal s t i) none

/-- The min-awake of a carrier right after an entry to ACTIVE, by its role and the selected bank (R51). -/
def freshMinAwake (s : State) (role : Role) : MinAwake :=
  if role = .coverage then .absent else if (bank s).minAwake = 0 then .passed s.now else .running s.now

/-- A record right after an entry to ACTIVE from an exchange (R32, R49, R51, R61, R72). -/
def Carrier.returned (c : Carrier) (s : State) : Carrier :=
  { c with
    power := .active
    load := none
    stale := false
    staleTimer := none
    dwell := .absent
    minAwake := freshMinAwake s c.role
    ripeTime := none
    answerTimer := none
    drainTimer := none
    holdoff := none }

/-- A record right after its offer was issued (R62). -/
def Carrier.offeredNow (c : Carrier) (s : State) : Carrier :=
  { c with
    token := c.token + 1
    power := .offered
    dwell := .absent
    ripeTime := none
    answerTimer := some s.now }

def Notice.isOffer : Notice → Bool
  | .offer _ _ _ => true
  | .withdraw _ _ _ _ => false
  | .powered _ _ => false
  | .faulted _ _ => false
  | .offline _ _ => false
  | .reply _ _ _ _ _ => false

/-- What the exit of carrier n from its exchange does to everything else, notices `posted` apart: its anchors may start their
holdoffs (R84), and its owner's queue may give carriers from its head to offers in the freed slot (R58). -/
abbrev ExitFollows (n : Site) (posted : List Notice) (s t : State) : Prop :=
  let o := (s.carrier n).owner
  (∀ m, m ≠ n →
    ((t.carrier m).holdoff = (s.carrier m).holdoff
        ∨ (m ∈ (s.carrier n).anchors ∧ (t.carrier m).holdoff = some s.now))
      ∧ (t.carrier m = { s.carrier m with holdoff := (t.carrier m).holdoff }
        ∨ (m ∈ (s.port o).offerQueue ∧ m ∉ (t.port o).offerQueue
            ∧ t.carrier m = { (s.carrier m).offeredNow s with holdoff := (t.carrier m).holdoff })))
    ∧ (∀ w, w ≠ o → t.port w = s.port w) ∧ (t.port o).offerQueue <:+ (s.port o).offerQueue
    ∧ (∀ x ∈ (t.port o).notices, x ∈ (s.port o).notices ∨ x ∈ posted ∨ x.isOffer = true)
    ∧ t.rails = s.rails ∧ t.ramp = s.ramp ∧ t.stack = s.stack ∧ Cascade s t

/-- A period of a carrier has reached the length in force (R142). -/
def Period.reached (s : State) (n : Site) : Period → Bool
  | .dwell => dwellDue s n
  | .stale => staleDue s n
  | .minAwake => minAwakeDue s n
  | .holdoff => holdoffDue s n
  | .answer => answerDue s n
  | .drain => drainDue s n
  | .grace => false

/-- The command that is the end of a period of a carrier; the grace period is a rail's. -/
def Period.command (n : Site) : Period → Option Instr
  | .dwell => some (.dwellElapses n)
  | .stale => some (.staleTimerExpiry n)
  | .minAwake => some (.minAwakePasses n)
  | .holdoff => some (.surgeHoldoffEnds n)
  | .answer => some (.answerTimerExpiry n)
  | .drain => some (.drainTimerExpiry n)
  | .grace => none

end Sys2Proof.Machine
end

