-- ==== Sys2Proof/WellFormed.lean ====
section
/-! DEFINITION. Which commands the ports can carry: every operand within the width of the field that brings it
(R189, R192), the two catch-all commands naming what no other command names, and the pins within their number. -/

namespace Sys2Proof

/-- Fits one byte. -/
def fits1 (v : Nat) : Bool := v < 256

/-- Fits two bytes. -/
def fits2 (v : Nat) : Bool := v < 65536

/-- The kinds of R168 step 1, and POLL and RESYNC, which never join a FIFO (R165). -/
def knownTenantKind (k : Nat) : Bool := k ≤ 0x0A || k == 0x0F

/-- The command is one that the part's pins and ports can carry. -/
def Instr.wellFormed : Instr → Bool
  | .powerOnReset addr => addr < 8
  | .setCarrier n o ro ra k x y z tr =>
    fits1 n && fits1 o && fits1 ro && fits1 ra && fits1 k && fits1 x && fits1 y && fits1 z && decide (-128 ≤ tr ∧ tr < 128)
  | .clearCarrier n => fits1 n
  | .enable n => fits1 n
  | .disable n => fits1 n
  | .pin n => fits1 n
  | .unpin n => fits1 n
  | .setSlices t p q => fits1 t && fits1 p && fits1 q
  | .setRail r i b f d => fits1 r && fits2 i && fits2 b && fits2 f && fits2 d
  | .setBias r c => fits1 r && fits1 c
  | .clearFaultCarrier n => fits1 n
  | .clearFaultRail r => fits1 r
  | .setWindow w e x y => w < 16 && e < 16 && x < 4096 && y < 4096
  | .setTime t => t < 16777216
  | .setDivider d => fits2 d
  | .setInputs h c d => fits1 h && fits1 c && fits1 d
  | .setBankParam b p v => fits1 b && fits1 p && fits2 v
  | .selectBank m => fits1 m
  | .standDown => true
  | .resume => true
  | .setPort t e w d => fits1 t && fits1 e && fits1 w && fits1 d
  | .ackAlert c slots => fits1 c && slots.length == 10 && slots.all fits1
  | .clearTally r => fits1 r
  | .readCarrier n => fits1 n
  | .readRail r => fits1 r
  | .readTenant t => fits1 t
  | .readSite => true
  | .readTally => true
  | .malformedSiteRecord bytes =>
    0 < bytes.length && bytes.length ≤ Config.recordBytes && decodeRecord bytes == .malformedSiteRecord bytes
  | .busTimeout => true
  | .transferStart _ => true
  | .stallTimeout _ => true
  | .frameEnd _ => true
  | .load _ l u n z => fits1 l && fits2 u && fits1 n && z < 2 ^ 72
  | .accept _ l k z => fits1 l && fits1 k && z < 2 ^ 88
  | .decline _ l k z => fits1 l && fits1 k && z < 2 ^ 88
  | .drained _ l k z => fits1 l && fits1 k && z < 2 ^ 88
  | .wake _ l z => fits1 l && z < 2 ^ 96
  | .keep _ l z => fits1 l && z < 2 ^ 96
  | .unkeep _ l z => fits1 l && z < 2 ^ 96
  | .fault _ l z => fits1 l && z < 2 ^ 96
  | .clear _ l z => fits1 l && z < 2 ^ 96
  | .query _ l z => fits1 l && z < 2 ^ 96
  | .unknownTenantRequest _ k l => fits1 k && fits1 l && !knownTenantKind k
  | .linkWindowExpiry _ => true
  | .staleTimerExpiry _ => true
  | .answerTimerExpiry _ => true
  | .drainTimerExpiry _ => true
  | .dwellElapses _ => true
  | .minAwakePasses _ => true
  | .surgeHoldoffEnds _ => true
  | .graceExpiry _ => true
  | .settleExpiry _ _ => true
  | .retryWaitExpiry _ => true
  | .secondsEvent => true
  | .inputLevelChange _ _ => true
  | .debounceExpiry _ => true
  | .powerGoodFall _ => true
  | .tclkRisingEdge _ _ => true
  | .i2cStartCondition addr _ => addr < 128
  | .i2cStopCondition => true
  | .i2cDataByte _ _ => true
  | .sclEdge _ => true

end Sys2Proof
end

