-- ==== Sys2Proof/Certificates/Slice0/Obligations.lean ====
section
/-! DEFINITION. The statements put to the provers. -/

open Sys2Proof Sys2Proof.Machine

/-! ### The queue of commands, time and reset -/

/-- One step takes the command at the front of the queue and runs it, whole, with the queue's rest (log entry 20). -/
def Obligations.StepRunsFrontCommand : Prop :=
  ∀ (c : Instr) (rest : List Instr) (s : State), s.pending = c :: rest → step s = exec c { s with pending := rest }

/-- The model's choice (log entry 1): on an empty queue time passes, by the expiry that is due, else by one tick, else by
the seconds event that the next tick completes. -/
def Obligations.IdleStepLetsTimePass : Prop :=
  ∀ s : State, s.pending = [] →
    (∀ i, nextExpiry s = some i → step s = exec i (countRead i s)) ∧
    (nextExpiry s = none → s.clock.subTicks + 1 < 1000 →
      step s = .next { s with
        clock := { s.clock with
          now := s.clock.now + 1, subTicks := s.clock.subTicks + 1, divInForce := s.clock.divider } }) ∧
    (nextExpiry s = none → 1000 ≤ s.clock.subTicks + 1 → step s = exec .secondsEvent s)

/-- What power-on reset leaves in every carrier record, slice pointer and rail record (R8, R107); of the level of RAIL_PG,
which is the outside's, nothing is said here. -/
def Obligations.PowerOnResetRecords : Prop :=
  ∀ (addr : Nat) (s : State), ∃ t, exec (.powerOnReset addr) s = .next t ∧
    (∀ n, t.carrier n =
      { provisioned := false, owner := .a, role := .coverage, rail := 0, anchors := [], trim := 0, power := .offline,
        cause := none, pins := ⟨false, false, false⟩, load := none, stale := false, staleTimer := none, dwell := .absent,
        minAwake := .absent, ripeTime := none, token := 0, answerTimer := none, drainTimer := none, holdoff := none }) ∧
    (∀ u, (t.port u).p0 = none ∧ (t.port u).p1 = none) ∧
    (∀ r, ∃ level, t.rail r =
      { idlePower := 0, breakEven := 0, settleFull := 100, settleReduced := 100, bias := .full, pendingBias := none,
        state := .off, retry := false, held := false, graceTimer := none, settleTimer := none, retryTimer := none,
        offSeconds := 0, rampCount := 0, powerGood := level, toldAt := none }) ∧
    (∀ r, needCount t r = 0 ∧ (t.rail r).state.enabled = false ∧ t.ramp.classOf r = none) ∧
    t.ramp.queue = [] ∧ t.ramp.slot = none

/-- What power-on reset leaves in the clock, the windows, the lines, the banks, the stack, the ports, the alert set and the
site port. That the lines keep the levels the outside drives, and SDA's level, are the model's choice (log entries 8 and
24). -/
def Obligations.PowerOnResetUnits : Prop :=
  ∀ (addr : Nat) (s : State), addr < 8 → ∃ t, exec (.powerOnReset addr) s = .next t ∧
    (t.clock.now = 0 ∧ t.clock.subTicks = 0 ∧ t.clock.tod = 0 ∧ t.clock.valid = false ∧ t.clock.divider = 9999 ∧
      ∀ w : Fin 2, t.clock.windows[w] = ⟨false, 0, 0⟩) ∧
    (t.inputs.holdIn = ⟨false, s.inputs.holdIn.level, false, if s.inputs.holdIn.level then some 0 else none⟩ ∧
      t.inputs.sourceIn = ⟨false, s.inputs.sourceIn.level, false, if s.inputs.sourceIn.level then some 0 else none⟩ ∧
      t.inputs.debounce = 1 ∧ t.inputs.standDown = false) ∧
    (t.banks.mode = .auto ∧ selectedBank t = 0 ∧
      t.banks.bank[0] = ⟨3, 4, 150, 300, 700, 900, 30, 1800, 120, 5, 120, 60⟩ ∧
      t.banks.bank[1] = ⟨3, 4, 250, 400, 800, 600, 30, 1200, 180, 5, 120, 30⟩) ∧
    t.stack = [] ∧ night t = false ∧ siteHold t = false ∧ (∀ r, (t.rail r).powerGood = (s.rail r).powerGood) ∧
    (∀ u, t.port u =
      { p0 := none, p1 := none, link := .disabled, linkWindow := 10, drainSlots := 2, windowTimer := none,
        offerQueue := [], fifo := [], notices := [], latch := none, overrun := false, frameErrors := 0,
        transfer := .idle, stallTimer := none, tselHigh := (s.port u).tselHigh }) ∧
    (∀ k : Fin 10, t.alerts[k] = false) ∧ alertN t = true ∧
    t.mgmt = ⟨0x50 + addr, .idle, [], ⟨.noRecord, []⟩, none, s.mgmt.sclHigh, .released⟩ ∧ t.pending = s.pending

/-- The state after reset meets every law of the part. -/
def Obligations.ResetMeetsLaws : Prop :=
  SettingsOk State.reset ∧ AnchorsOk State.reset ∧ CarriersOk State.reset ∧ SlotsOk State.reset ∧
    NightOk State.reset ∧ CoverageOk State.reset ∧ RampOk State.reset ∧ PortsOk State.reset ∧ PowerOk State.reset ∧
    RipeOk State.reset

/-! ### Provisioning -/

/-- SET_CARRIER: its checks in their order (R13), and what a taken one writes (R14). -/
def Obligations.SetCarrierChecksAndWrites : Prop :=
  ∀ (n owner role rail count a0 a1 a2 : Nat) (trim : Int) (s : State),
    let run := exec (.setCarrier n owner role rail count a0 a1 a2 trim) s
    (32 ≤ n → run = .next (respond (refuse .noSuch s))) ∧
    ∀ i : Site, n = i.val →
      if (s.carrier i).provisioned = true ∧ (s.carrier i).power ≠ .offline then
        run = .next (respond (refuse .wrongState s))
      else if SetCarrierBadField s i owner role rail count [a0, a1, a2] trim then
        run = .next (respond (refuse .badField s))
      else
        ∃ (t : Tenant) (ro : Role) (r : RailId) (xs : List Site),
          owner = tenantCode t ∧ role = ro.code ∧ rail = r.val ∧ xs.map Fin.val = [a0, a1, a2].take count ∧
          run = .next (respond (answerOk (s.modCarrier i fun c =>
            { c with provisioned := true, owner := t, role := ro, rail := r, anchors := xs, trim := trim })))

/-- CLEAR_CARRIER: its checks in their order, and the fields that return to their reset values (R15). -/
def Obligations.ClearCarrierChecksAndWrites : Prop :=
  ∀ (n : Nat) (s : State),
    let run := exec (.clearCarrier n) s
    (32 ≤ n → run = .next (respond (refuse .noSuch s))) ∧
    ∀ i : Site, n = i.val →
      if (s.carrier i).provisioned = false then run = .next (respond (refuse .noSuch s))
      else if (s.carrier i).power ≠ .offline then run = .next (respond (refuse .wrongState s))
      else if ∃ m : Site, m ≠ i ∧ (s.carrier m).provisioned = true ∧ i ∈ (s.carrier m).anchors then
        run = .next (respond (refuse .badField s))
      else
        run = .next (respond (answerOk (s.modCarrier i fun c =>
          { c with provisioned := false, owner := .a, role := .coverage, rail := 0, anchors := [], trim := 0 })))

/-- ENABLE: its checks in their order, the LINK pin of a silent owner, and the entry to WAKING (R16). -/
def Obligations.EnableChecksAndWakes : Prop :=
  ∀ (n : Nat) (s : State),
    let run := exec (.enable n) s
    (32 ≤ n → run = .next (respond (refuse .noSuch s))) ∧
    ∀ i : Site, n = i.val →
      let c := s.carrier i
      let p := s.port c.owner
      if c.provisioned = false then run = .next (respond (refuse .noSuch s))
      else if c.power ≠ .offline then run = .next (respond (refuse .wrongState s))
      else if c.role = .capacity ∧ c.anchors = [] then run = .next (respond (refuse .badField s))
      else if p.p0 ≠ some (sliceOf i) ∧ p.p1 ≠ some (sliceOf i) then run = .next (respond (refuse .notVisible s))
      else
        run = .next (respond (answerOk (enterWaking i .ordinary
          (if p.link = .linked then s else s.modCarrier i fun c => { c with pins := { c.pins with link := true } }))))

/-- DISABLE: its checks, and what it makes of a carrier that was not OFFLINE (R17): the record, queue, stack and notice; the
held rail whose last sleeper it was enters OFF (R109, R111). What else changes is what carriers and rails do to one another
(R18). -/
def Obligations.DisableTakesOffline : Prop :=
  ∀ (n : Nat) (s : State),
    let run := exec (.disable n) s
    (32 ≤ n → run = .next (respond (refuse .noSuch s))) ∧
    ∀ i : Site, n = i.val →
      let c := s.carrier i
      if c.provisioned = false then run = .next (respond (refuse .noSuch s))
      else if c.power = .offline then run = .next (respond (answerOk s))
      else QueuesOk s → ∃ u, run = .next (respond (answerOk u)) ∧
        u.carrier i =
          { c with
            power := .offline, cause := none, pins := ⟨false, false, false⟩, load := none, stale := false,
            staleTimer := none, dwell := .absent, minAwake := .absent, ripeTime := none, answerTimer := none,
            drainTimer := none, holdoff := none } ∧
        i ∉ u.stack ∧ (∀ w, i ∉ (u.port w).offerQueue) ∧
        Cascade (s.modCarrier i fun c => { c with pins := ⟨false, false, false⟩ }) u ∧
        (c.power = .asleep → ∀ q, u.rail q =
          if q = c.rail ∧ (s.rail q).state = .hold ∧ (s.rail q).held = true ∧ sleepersOn s q = 1 then
            { s.rail q with state := .off, graceTimer := none, held := false }
          else s.rail q) ∧
        (c.role = .capacity → c.power.inExchange = false →
          (u.port c.owner).notices =
            if (s.port c.owner).link = .disabled then (s.port c.owner).notices
            else (s.port c.owner).notices.filter (fun y => y.about != some i) ++ [.offline i (noticeNumber s i)])

/-- SET_SLICES: its checks in their order, and the write of both pointers, on a port that takes no request (R19). -/
def Obligations.SetSlicesChecksAndWrites : Prop :=
  ∀ (tenant v0 v1 : Nat) (s : State),
    let run := exec (.setSlices tenant v0 v1) s
    (2 < tenant ∨ (3 < v0 ∧ v0 ≠ 0xFF) ∨ (3 < v1 ∧ v1 ≠ 0xFF) → run = .next (respond (refuse .badField s))) ∧
    ∀ (t : Tenant) (q0 q1 : Option Slice), tenant = tenantCode t → v0 = pointerCode q0 → v1 = pointerCode q1 →
      if (s.port t).link ≠ .disabled then run = .next (respond (refuse .wrongState s))
      else if ∃ n : Site, (s.carrier n).provisioned = true ∧ (s.carrier n).owner = t ∧ (s.carrier n).power ≠ .offline ∧
          q0 ≠ some (sliceOf n) ∧ q1 ≠ some (sliceOf n) then run = .next (respond (refuse .notVisible s))
      else
        let u := s.modPort t fun p => { p with p0 := q0, p1 := q1 }
        run = .next (respond (answerOk u)) ∧ (u.port t).canTake = false

/-- The four pin requests (R20, R21): whom they refuse, and that the others add or remove their source; then what adding or
removing the SITE or the TENANT source does in each power state (R7, R95). The LINK source is the link supervisor's. -/
def Obligations.PinRequestsAndEffects : Prop :=
  (∀ (n : Nat) (s : State), 32 ≤ n →
    exec (.pin n) s = .next (respond (refuse .noSuch s)) ∧ exec (.unpin n) s = .next (respond (refuse .noSuch s))) ∧
  (∀ (i : Site) (s : State),
    if (s.carrier i).provisioned = false then
      exec (.pin i.val) s = .next (respond (refuse .noSuch s)) ∧
      exec (.unpin i.val) s = .next (respond (refuse .noSuch s))
    else if (s.carrier i).power = .offline then
      exec (.pin i.val) s = .next (respond (refuse .wrongState s)) ∧
      exec (.unpin i.val) s = .next (respond (refuse .wrongState s))
    else
      exec (.pin i.val) s = .next (respond (answerOk (addPin .site i s))) ∧
      exec (.unpin i.val) s = .next (respond (answerOk (removePin .site i s)))) ∧
  (∀ (t : Tenant) (num : Nat) (i : Site) (s : State), (s.port t).canTake = true → translate s t num = .ok i →
    if (s.carrier i).power = .offline then
      exec (.keep t num 0) s = .next (post t (replyAbout s t i 0x06 num .wrongState) s) ∧
      exec (.unkeep t num 0) s = .next (post t (replyAbout s t i 0x07 num .wrongState) s)
    else
      exec (.keep t num 0) s = .next (post t (replyAbout s t i 0x06 num .ok) (addPin .tenant i s)) ∧
      exec (.unkeep t num 0) s = .next (post t (replyAbout s t i 0x07 num .ok) (removePin .tenant i s))) ∧
  ∀ (src : PinSource) (n : Site) (s : State), src = .site ∨ src = .tenant →
    let added := s.modCarrier n fun c => { c with pins := c.pins.put src true }
    let removed := s.modCarrier n fun c => { c with pins := c.pins.put src false }
    ((s.carrier n).pins.has src = true → addPin src n s = s) ∧
    ((s.carrier n).pins.has src = false → removePin src n s = s) ∧
    ((s.carrier n).pins.has src = false →
      ((s.carrier n).power = .active → addPin src n s =
        (s.modPort (s.carrier n).owner fun p => { p with offerQueue := p.offerQueue.filter (· != n) }).modCarrier n
          fun c => { c with pins := c.pins.put src true, ripeTime := none }) ∧
      ((s.carrier n).power = .offered ∨ (s.carrier n).power = .draining → addPin src n s = withdraw n .pin added) ∧
      ((s.carrier n).power = .asleep → addPin src n s = wakeCarrier n .ordinary added) ∧
      ((s.carrier n).power = .waking ∨ (s.carrier n).power = .faulted → addPin src n s = added)) ∧
    ((s.carrier n).pins.has src = true →
      ((removed.carrier n).pins ≠ PinSet.empty → removePin src n s = removed) ∧
      ((removed.carrier n).pins = PinSet.empty → removePin src n s = reeval n removed))

/-! ### Wakes, withdrawals and ripeness -/

/-- What a carrier's entry to WAKING leads to, by the state of its rail (R89, R101, R102, R109, R113, R114, R116). A COVERAGE
carrier that so becomes ACTIVE has its dependents re-evaluated: those ripe then are queued, if not offered (R53, R101). That
its POWERED notice comes before their OFFERs is log entry 14. -/
def Obligations.WakingByRailState : Prop :=
  ∀ (n : Site) (cls : RampClass) (s : State),
    let c := s.carrier n
    let r := c.rail
    let u := s.modCarrier n fun c => { c with power := .waking, cause := none }
    let back := (s.modPort c.owner fun p => { p with offerQueue := p.offerQueue.filter (· != n) }).modCarrier n
      fun c => { c.returned s with cause := none }
    let onHold := back.modRail r fun x => { x with state := .on, graceTimer := none, held := false }
    let notice := Notice.powered n (noticeNumber s n)
    let t := enterWaking n cls s
    ((s.rail r).state = .ramping ∨ (s.rail r).state = .retryWait → t = u) ∧
    ((s.rail r).state = .off → s.ramp.slot ≠ none →
      t = { u.modRail r (fun x => { x with state := .queued }) with
            ramp := match cls with
              | .urgent => { s.ramp with urgent := s.ramp.urgent ++ [r] }
              | .ordinary => { s.ramp with ordinary := s.ramp.ordinary ++ [r] } }) ∧
    ((s.rail r).state = .off → s.ramp = ⟨[], [], none⟩ →
      t.carriers = u.carriers ∧ t.ramp = ⟨[], [], some r⟩ ∧ (t.rail r).state = .ramping ∧
      (t.rail r).rampCount = min ((s.rail r).rampCount + 1) (max 4294967295 (s.rail r).rampCount) ∧
      ∀ q, q ≠ r → t.rail q = s.rail q) ∧
    ((s.rail r).state = .queued → (cls = .ordinary ∨ r ∉ s.ramp.ordinary) → t = u) ∧
    ((s.rail r).state = .queued → cls = .urgent → r ∈ s.ramp.ordinary →
      t = { u with
            ramp := ⟨s.ramp.urgent.filter (· != r) ++ [r], s.ramp.ordinary.filter (· != r), s.ramp.slot⟩ }) ∧
    ((s.rail r).state = .on → c.role = .capacity → t = post c.owner notice back) ∧
    ((s.rail r).state = .hold → c.role = .capacity → t = post c.owner notice onHold) ∧
    ((s.rail r).state = .on → c.role = .coverage → t = reevalDependents n (post c.owner notice back)) ∧
    ((s.rail r).state = .hold → c.role = .coverage → t = reevalDependents n (post c.owner notice onHold)) ∧
    ((s.rail r).state = .on ∨ (s.rail r).state = .hold → c.role = .coverage → QueuesOk s →
      t.carrier n = { c.returned s with cause := none } ∧ (t.rail r).state = .on ∧ t.stack = s.stack ∧
      ∀ m, dependent s n m = true → ripe t m = true → m ∈ (t.port (s.carrier m).owner).offerQueue) ∧
    ((s.rail r).state = .fault →
      t = post c.owner (.faulted n (noticeNumber s n))
        (s.modCarrier n fun c => { c with power := .faulted, cause := some .rail }))

/-- The two returns to ACTIVE by the exchange (R66, R71, R72). A withdrawal: the effects on the record, the WITHDRAW notice
with the token of the ended offer, and nothing for a carrier that is not in an exchange. A taken DECLINE: the same effects
on the record, no WITHDRAW, and its REPLY posted last (R68). Everything else changes only by the anchors' holdoffs (R84) and
by dispatch into the freed slot (R58). -/
def Obligations.ReturnsToActive : Prop :=
  (∀ (n : Site) (why : Reason) (s : State),
    ((s.carrier n).power.inExchange = false → withdraw n why s = s) ∧
    ((s.carrier n).power.inExchange = true → QueuesOk s → n ∉ (s.carrier n).anchors →
      let t := withdraw n why s
      t.carrier n = (s.carrier n).returned s ∧
      ((s.port (s.carrier n).owner).link ≠ .disabled →
        Notice.withdraw n (noticeNumber s n) (s.carrier n).token why ∈ (t.port (s.carrier n).owner).notices) ∧
      ExitFollows n [.withdraw n (noticeNumber s n) (s.carrier n).token why] s t)) ∧
  ∀ (t : Tenant) (num : Nat) (i : Site) (s : State), (s.port t).canTake = true → translate s t num = .ok i →
    (s.carrier i).power = .offered ∨ (s.carrier i).power = .draining → QueuesOk s → i ∉ (s.carrier i).anchors →
    ∃ u, exec (.decline t num (s.carrier i).token.toNat 0) s = .next (post t (replyAbout s t i 0x03 num .ok) u) ∧
      u.carrier i = (s.carrier i).returned s ∧ ExitFollows i [] s u

/-- Re-evaluation of ripeness (R53, R54, R55): an unripe carrier is out of its queue, a queued ripe one keeps its place,
and a ripe one that is not queued joins and, being the head with a slot free, is offered at once (R58, R62). -/
def Obligations.RipeCarriersAreOffered : Prop :=
  ∀ (n : Site) (s : State),
    let c := s.carrier n
    let p := s.port c.owner
    (ripe s n = false →
      reeval n s = (s.modPort c.owner fun p => { p with offerQueue := p.offerQueue.filter (· != n) }).modCarrier n
        fun c => { c with ripeTime := none }) ∧
    (ripe s n = true → n ∈ p.offerQueue → reeval n s = s) ∧
    (ripe s n = true → n ∉ p.offerQueue → p.drainSlots ≤ outstanding s c.owner →
      reeval n s = (s.modPort c.owner fun p => { p with offerQueue := p.offerQueue ++ [n] }).modCarrier n
        fun c => { c with ripeTime := some s.now }) ∧
    (ripe s n = true → p.offerQueue = [] → outstanding s c.owner < p.drainSlots →
      reeval n s = post c.owner (.offer n (noticeNumber s n) (c.token + 1)) (s.modCarrier n fun c =>
        { c with
          token := c.token + 1, power := .offered, dwell := .absent, ripeTime := none, answerTimer := some s.now }))

/-! ### Rails -/

/-- SET_RAIL (R125), SET_BIAS (R124) and CLEAR_TALLY (R126): their checks and their writes, in every rail state. -/
def Obligations.RailConfigurationRequests : Prop :=
  (∀ (rail power even full reduced : Nat) (s : State),
    (4 ≤ rail → exec (.setRail rail power even full reduced) s = .next (respond (refuse .noSuch s))) ∧
    ∀ r : RailId, rail = r.val →
      if 400 < power ∨ 3600 < even ∨ full < 10 ∨ 2000 < full ∨ reduced < 10 ∨ 2000 < reduced then
        exec (.setRail rail power even full reduced) s = .next (respond (refuse .badField s))
      else
        exec (.setRail rail power even full reduced) s = .next (respond (answerOk (s.modRail r fun x =>
          { x with idlePower := power, breakEven := even, settleFull := full, settleReduced := reduced })))) ∧
  (∀ (rail cls : Nat) (s : State),
    (4 ≤ rail → exec (.setBias rail cls) s = .next (respond (refuse .noSuch s))) ∧
    (rail < 4 → 1 < cls → exec (.setBias rail cls) s = .next (respond (refuse .badField s))) ∧
    ∀ (r : RailId) (b : Bias), rail = r.val → cls = b.code →
      exec (.setBias rail cls) s = .next (respond (answerOk (s.modRail r fun x =>
        if x.state = .ramping ∨ x.state = .on ∨ x.state = .hold then { x with pendingBias := some b }
        else { x with bias := b, pendingBias := none })))) ∧
  (∀ (rail : Nat) (s : State),
    (4 ≤ rail → rail ≠ 0xFF → exec (.clearTally rail) s = .next (respond (refuse .noSuch s))) ∧
    (∀ r : RailId, rail = r.val →
      exec (.clearTally rail) s =
        .next (respond (answerOk (s.modRail r fun x => { x with offSeconds := 0, rampCount := 0 })))) ∧
    (rail = 0xFF → ∃ t, exec (.clearTally rail) s = .next (respond (answerOk t)) ∧
      (∀ r, t.rail r = { s.rail r with offSeconds := 0, rampCount := 0 }) ∧ t = { s with rails := t.rails }))

/-- CLEAR_FAULT naming a rail (R122): its checks; the rail leaves FAULT with its retry flag clear, and every carrier that
the rail had faulted enters WAKING, and no other carrier changes. -/
def Obligations.ClearFaultRailWakes : Prop :=
  ∀ (rail : Nat) (s : State),
    (4 ≤ rail → exec (.clearFaultRail rail) s = .next (respond (refuse .noSuch s))) ∧
    ∀ r : RailId, rail = r.val →
      let hit := fun n : Site => (s.carrier n).provisioned = true ∧ (s.carrier n).rail = r ∧
        (s.carrier n).power = .faulted ∧ (s.carrier n).cause = some .rail
      if (s.rail r).state ≠ .fault then exec (.clearFaultRail rail) s = .next (respond (refuse .wrongState s))
      else RampOk s → ∃ t, exec (.clearFaultRail rail) s = .next (respond (answerOk t)) ∧
        (∀ n, (hit n → t.carrier n = { s.carrier n with power := .waking, cause := none }) ∧
          (¬ hit n → t.carrier n = s.carrier n)) ∧
        ((∀ n, ¬ hit n) → t = s.modRail r fun x => { x with state := .off, retry := false }) ∧
        ((∃ n, hit n) → s.ramp.slot ≠ none →
          (t.rail r).state = .queued ∧ t.ramp = { s.ramp with urgent := s.ramp.urgent ++ [r] }) ∧
        ((∃ n, hit n) → s.ramp.slot = none → (t.rail r).state = .ramping ∧ t.ramp.slot = some r) ∧
        (t.rail r).retry = false ∧ (∀ q, q ≠ r → t.rail q = s.rail q) ∧
        t.ports = s.ports ∧ t.stack = s.stack ∧ t.alerts = s.alerts ∧
        t.clock = s.clock ∧ t.inputs = s.inputs ∧ t.banks = s.banks

/-- The fall of a rail's need to 0 by its state (R108, R109, R115, R117, R119, R121); the grace expiry of a rail in HOLD
(R110, R111); the expiry of the retry wait (R119); and a held rail whose last sleeper has left for OFFLINE or FAULTED
(R109, R111). That an expiry command is nothing before its timer has reached its length is log entry 2. -/
def Obligations.RailNeedsAndTimers : Prop :=
  ∀ (r : RailId) (s : State),
    (needCount s r ≠ 0 → needFalls r s = s) ∧
    (needCount s r = 0 →
      ((s.rail r).state = .on → (bank s).railGrace ≠ 0 → needFalls r s = s.modRail r fun x =>
        { x with state := .hold, graceTimer := some s.now, held := false }) ∧
      ((s.rail r).state = .on → (bank s).railGrace = 0 → needFalls r s = s.modRail r fun x =>
        if sleepersOn s r = 0 ∨ (night s = true ∧ (s.rail r).breakEven ≤ remaining s) then
          { x with state := .off, graceTimer := none, held := false }
        else { x with state := .hold, graceTimer := none, held := true }) ∧
      ((s.rail r).state = .queued → needFalls r s =
        { s.modRail r (fun x => { x with state := .off }) with
          ramp := ⟨s.ramp.urgent.filter (· != r), s.ramp.ordinary.filter (· != r), s.ramp.slot⟩ }) ∧
      ((s.rail r).state ≠ .on → (s.rail r).state ≠ .queued → needFalls r s = s)) ∧
    (sleeperLeaves r s =
      if (s.rail r).state = .hold ∧ (s.rail r).held = true ∧ sleepersOn s r = 0 then
        s.modRail r fun x => { x with state := .off, graceTimer := none, held := false }
      else s) ∧
    (graceDue s r = false → exec (.graceExpiry r) s = .next s) ∧
    (retryDue s r = false → exec (.retryWaitExpiry r) s = .next s) ∧
    (graceDue s r = true → (s.rail r).state = .hold →
      exec (.graceExpiry r) s = .next (s.modRail r fun x =>
        if sleepersOn s r = 0 ∨ (night s = true ∧ (s.rail r).breakEven ≤ remaining s) then
          { x with state := .off, graceTimer := none, held := false }
        else { x with graceTimer := none, held := true })) ∧
    (retryDue s r = true → (s.rail r).state = .retryWait →
      (needCount s r = 0 →
        exec (.retryWaitExpiry r) s = .next (s.modRail r fun x => { x with retryTimer := none, state := .off })) ∧
      (needCount s r ≠ 0 → s.ramp.slot ≠ none →
        exec (.retryWaitExpiry r) s = .next { s.modRail r (fun x => { x with retryTimer := none, state := .queued }) with
          ramp := { s.ramp with urgent := s.ramp.urgent ++ [r] } }) ∧
      (needCount s r ≠ 0 → s.ramp = ⟨[], [], none⟩ → ∃ t, exec (.retryWaitExpiry r) s = .next t ∧
        (t.rail r).state = .ramping ∧ (t.rail r).retryTimer = none ∧ t.ramp = ⟨[], [], some r⟩ ∧
        t.carriers = s.carriers ∧ t.ports = s.ports))

/-- The settle expiry of a rail in RAMPING: a good sample (R117), a first failure (R118) and a second (R120), the slot being
released and granted in each. A sample after a fall told at the same moment finds the line low (R123), else it finds the
level that the command brings (log entry 5); that the command is nothing before the timer
has reached its length is log entry 2, and that the fault's sweep of the carriers comes before the slot's release is log
entry 32. -/
def Obligations.SettleExpirySamples : Prop :=
  ∀ (r : RailId) (s : State),
    let good := fun x : Rail => { x with powerGood := true, toldAt := some s.now, settleTimer := none, retry := false }
    let low := fun x : Rail => { x with powerGood := false, toldAt := some s.now }
    let fallen := (s.rail r).toldAt = some s.now ∧ (s.rail r).powerGood = false
    (∀ level, settleDue s r = false → exec (.settleExpiry r level) s = .next s) ∧
    (fallen → exec (.settleExpiry r true) s = exec (.settleExpiry r false) s) ∧
    (settleDue s r = true → (s.rail r).state = .ramping →
      (¬ fallen → needCount s r = 0 → (bank s).railGrace ≠ 0 →
        exec (.settleExpiry r true) s = .next (releaseSlot (s.modRail r fun x =>
          { good x with state := .hold, graceTimer := some s.now, held := false }))) ∧
      (¬ fallen → needCount s r = 0 → (bank s).railGrace = 0 →
        let dark : Bool := sleepersOn s r = 0 ∨ (night s = true ∧ (s.rail r).breakEven ≤ remaining s)
        exec (.settleExpiry r true) s = .next (releaseSlot (s.modRail r fun x =>
          { good x with state := if dark then .off else .hold, graceTimer := none, held := !dark }))) ∧
      (¬ fallen → needCount s r ≠ 0 → QueuesOk s → RampOk s → ∃ t, exec (.settleExpiry r true) s = .next t ∧
        t.rail r = { good (s.rail r) with state := .on } ∧
        (∀ n, (s.carrier n).provisioned = true → (s.carrier n).rail = r → (s.carrier n).power = .waking →
          t.carrier n = (s.carrier n).returned s) ∧
        t.ramp.slot = s.ramp.queue.head? ∧ t.ramp.queue = s.ramp.queue.tail ∧ t.stack = s.stack) ∧
      ((s.rail r).retry = false →
        exec (.settleExpiry r false) s = .next (releaseSlot (s.modRail r fun x =>
          { low x with settleTimer := none, state := .retryWait, retry := true, retryTimer := some s.now }))) ∧
      ((s.rail r).retry = true →
        exec (.settleExpiry r false) s =
          .next (releaseSlot (enterFault r (s.modRail r low)))))

/-- A fall of RAIL_PG: on a rail in ON or HOLD the rail enters FAULT, RAIL_FAULT joins the alert set, and every carrier on
the rail that is not OFFLINE is FAULTED, with cause RAIL and a FAULTED notice to its owner (unless the port is DISABLED,
R174) where it was not FAULTED before; the others are passed over without a notice (R121, R154). In every other state the
fall is ignored, and a settle expiry taken next at the same moment finds the line low (R123). -/
def Obligations.PowerGoodFallFaults : Prop :=
  ∀ (r : RailId) (s : State),
    ((s.rail r).state ≠ .on → (s.rail r).state ≠ .hold →
      let t := s.modRail r fun x => { x with powerGood := false, toldAt := some s.now }
      exec (.powerGoodFall r) s = .next t ∧ exec (.settleExpiry r true) t = exec (.settleExpiry r false) t) ∧
    ((s.rail r).state = .on ∨ (s.rail r).state = .hold → CarriersOk s → RampOk s →
      ∃ t, exec (.powerGoodFall r) s = .next t ∧
        (t.rail r).state = .fault ∧ (t.rail r).graceTimer = none ∧ (t.rail r).held = false ∧
        (t.rail r).powerGood = false ∧ (t.rail r).toldAt = some s.now ∧
        (∀ k : Fin 10, t.alerts[k] = if k.val = r.val then true else s.alerts[k]) ∧
        ∀ n, (s.carrier n).provisioned = true → (s.carrier n).rail = r →
          let notices := fun (w : State) (u : Tenant) => (w.port u).notices.filter fun x => x.about == some n
          let o := (s.carrier n).owner
          ((s.carrier n).power = .offline → (t.carrier n).power = .offline ∧ ∀ u, notices t u = notices s u) ∧
          ((s.carrier n).power = .faulted → (t.carrier n).power = .faulted ∧ (t.carrier n).cause = (s.carrier n).cause ∧
            ∀ u, notices t u = notices s u) ∧
          ((s.carrier n).power ≠ .offline → (s.carrier n).power ≠ .faulted →
            (t.carrier n).power = .faulted ∧ (t.carrier n).cause = some .rail ∧
            ((s.port o).link ≠ .disabled → notices t o = [.faulted n (noticeNumber s n)])))

/-- The grant of the ramp slot, step by step (R116). -/
def Obligations.GrantSteps : Prop :=
  ∀ s : State,
    (s.ramp.slot ≠ none ∨ s.ramp.queue = [] → grant s = s) ∧
    ∀ (r : RailId) (rest : List RailId), s.ramp.slot = none → s.ramp.queue = r :: rest → r ∉ rest →
      let x := s.rail r
      let class' := x.pendingBias.getD x.bias
      (grant s).ramp.queue = rest ∧ (grant s).ramp.slot = some r ∧
      (grant s).rail r =
        { x with
          bias := class', pendingBias := none, state := .ramping,
          rampCount := if x.rampCount < 4294967295 then x.rampCount + 1 else x.rampCount,
          settleTimer := some (s.now, if class' = .full then x.settleFull else x.settleReduced) } ∧
      (∀ q, q ≠ r → (grant s).rail q = s.rail q) ∧
      grant s = { s with rails := (grant s).rails, ramp := (grant s).ramp }

/-! ### Clock, night, lines and banks -/

/-- Membership in a window (R42), and R and night from the clock, the windows and site hold (R43, R44). -/
def Obligations.WindowsAndNight : Prop :=
  (∀ (w : Window) (t : Nat), w.contains t = true ↔
    (w.start < w.stop ∧ w.start ≤ t / 60 ∧ t / 60 < w.stop) ∨
    (w.stop < w.start ∧ (w.start ≤ t / 60 ∨ t / 60 < w.stop))) ∧
  (∀ (w : Window) (t : Nat), w.enabled = true → w.contains t = true → t < 86400 → w.stop ≤ 1439 →
    (w.remaining t : Int) = (60 * (w.stop : Int) - (t : Int)) % 86400) ∧
  (∀ (w : Window) (t : Nat), w.enabled = false ∨ w.contains t = false → w.remaining t = 0) ∧
  (∀ s : State, SettingsOk s →
    remaining s ≤ 86340 ∧
    remaining s = (if s.clock.valid = true then
      max (s.clock.windows[0].remaining s.clock.tod) (s.clock.windows[1].remaining s.clock.tod) else 0) ∧
    (1 ≤ remaining s ↔ s.clock.valid = true ∧
      ∃ w : Fin 2, s.clock.windows[w].enabled = true ∧ s.clock.windows[w].contains s.clock.tod = true) ∧
    (night s = true ↔ 1 ≤ remaining s ∧ siteHold s = false))

/-- SET_TIME (R132), SET_WINDOW (R47) and SET_DIVIDER (R130): their checks, their writes, and the re-evaluation of night with
cause WINDOW after the first two. -/
def Obligations.ClockRequests : Prop :=
  (∀ (tod : Nat) (s : State),
    (86400 ≤ tod → exec (.setTime tod) s = .next (respond (refuse .badField s))) ∧
    (tod < 86400 → exec (.setTime tod) s = .next (respond (answerOk (renight (night s) .window
      { s with clock := { s.clock with tod := tod, valid := true } }))))) ∧
  (∀ (window enabled start stop : Nat) (s : State),
    (2 ≤ window → exec (.setWindow window enabled start stop) s = .next (respond (refuse .noSuch s))) ∧
    (window < 2 → 1 < enabled ∨ 1439 < start ∨ 1439 < stop →
      exec (.setWindow window enabled start stop) s = .next (respond (refuse .badField s))) ∧
    (∀ w : Fin 2, window = w.val → enabled ≤ 1 → start ≤ 1439 → stop ≤ 1439 →
      exec (.setWindow window enabled start stop) s = .next (respond (answerOk (renight (night s) .window
        { s with clock := { s.clock with windows := s.clock.windows.set w ⟨enabled == 1, start, stop⟩ } }))))) ∧
  (∀ (divider : Nat) (s : State),
    exec (.setDivider divider) s =
      .next (respond (answerOk { s with clock := { s.clock with divider := BitVec.ofNat 16 divider } })))

/-- The night events: neither is raised while night is unchanged (R44); the night-end event leaves no offer queue, no offer
and no sleeper (R46, R76, R96), withdraws with the reason of its cause and wakes in the class of its cause (R46). -/
def Obligations.NightEndClears : Prop :=
  (∀ (before : Bool) (cause : NightEnd) (s : State),
    (night s = before → renight before cause s = s) ∧
    (before = false → night s = true → renight before cause s = nightStart s) ∧
    (before = true → night s = false → renight before cause s = nightEnd cause s)) ∧
  ∀ (cause : NightEnd) (s : State), night s = false → CarriersOk s →
    let t := nightEnd cause s
    let why : Reason := if cause = .window then .window else .hold
    (∀ u, (t.port u).offerQueue = []) ∧ (∀ n, (t.carrier n).power.sleepward = false) ∧ t.stack = [] ∧ Cascade s t ∧
    (∀ n, (s.carrier n).power.inExchange = true → (s.port (s.carrier n).owner).link ≠ .disabled →
      Notice.withdraw n (noticeNumber s n) (s.carrier n).token why ∈ (t.port (s.carrier n).owner).notices) ∧
    (s.ramp.slot ≠ none → ∀ n, (s.carrier n).power = .asleep →
      let r := (s.carrier n).rail
      ((s.rail r).state = .off → if cause = .window then r ∈ t.ramp.ordinary else r ∈ t.ramp.urgent) ∧
      ((s.rail r).state = .queued → r ∈ s.ramp.ordinary →
        if cause = .window then r ∈ t.ramp.ordinary else r ∈ t.ramp.urgent))

/-- SECONDS_EVENT (R126, R131): t advances and wraps, the tally of every dark rail is raised and stays at its greatest
value, and night is re-evaluated with cause WINDOW on the state so reached. That the second is completed first is the
model's choice (log entry 3), and that the tallies rise before night is re-evaluated is log entry 33. -/
def Obligations.SecondsEventCounts : Prop :=
  ∀ s : State,
    let clock : Clock := { s.clock with
      now := s.clock.now + BitVec.ofNat 48 (1000 - s.clock.subTicks), subTicks := 0,
      tod := if s.clock.tod + 1 < 86400 then s.clock.tod + 1 else 0, divInForce := s.clock.divider }
    let counted : Rail → Nat := fun x =>
      if (x.state = .off ∨ x.state = .queued ∨ x.state = .retryWait) ∧ x.offSeconds < 4294967295 then x.offSeconds + 1
      else x.offSeconds
    ∃ t, exec .secondsEvent s = .next t ∧
    t = renight (night s) .window
      { s with clock := clock, rails := s.rails.map fun x => { x with offSeconds := counted x } } ∧
    t.clock = clock ∧ (∀ r, (t.rail r).offSeconds = counted (s.rail r)) ∧
    (night { s with clock := t.clock } = night s →
      t.carriers = s.carriers ∧ t.stack = s.stack ∧ t.ports = s.ports ∧ t.ramp = s.ramp) ∧
    t.inputs = s.inputs ∧ t.banks = s.banks ∧ t.alerts = s.alerts ∧ t.mgmt = s.mgmt

/-- STAND_DOWN and RESUME write the latch and are answered OK whatever it held; it is clear after reset (R136). Site hold
follows (R137), and with it night, with cause HOLD. -/
def Obligations.StandDownLatch : Prop :=
  (∀ s : State, ∃ t, exec .standDown s = .next t ∧ t.inputs = { s.inputs with standDown := true } ∧
    siteHold t = true ∧ t.mgmt.response = ⟨.ok, []⟩ ∧
    t = respond (answerOk (renight (night s) .hold { s with inputs := { s.inputs with standDown := true } }))) ∧
  (∀ s : State, ∃ t, exec .resume s = .next t ∧ t.inputs = { s.inputs with standDown := false } ∧
    siteHold t = s.inputs.holdIn.conditioned ∧ t.mgmt.response = ⟨.ok, []⟩ ∧
    t = respond (answerOk (renight (night s) .hold { s with inputs := { s.inputs with standDown := false } }))) ∧
  State.reset.inputs.standDown = false

/-- SET_BANK_PARAM: its checks in their order, and the one value it writes (R138, R139). A value that is new in the selected
bank ends the periods of the kind it times that have reached it (R142), and a report parameter ends none. -/
def Obligations.SetBankParamChecksAndWrites : Prop :=
  (List.range 12).map paramRange =
    [(0, 6), (0, 15), (0, 999), (1, 1000), (1, 1000), (30, 3600), (5, 300), (0, 7200), (10, 900), (1, 60), (10, 600),
      (0, 600)] ∧
  (List.range 12).map paramPeriods =
    [[], [], [], [], [], [.dwell], [.stale], [.minAwake], [.holdoff], [.answer], [.drain], [.grace]] ∧
  ∀ (bk code v : Nat) (s : State),
    let run := exec (.setBankParam bk code v) s
    (2 ≤ bk ∨ 12 ≤ code → run = .next (respond (refuse .noSuch s))) ∧
    ∀ b : Fin 2, bk = b.val → code < 12 →
      let old := s.banks.bank[b]
      if v < (paramRange code).1 ∨ (paramRange code).2 < v then run = .next (respond (refuse .badField s))
      else if (code = 2 ∧ old.busyThreshold ≤ v) ∨ (code = 3 ∧ v ≤ old.sleepThreshold) then
        run = .next (respond (refuse .badField s))
      else ∃ new : Bank, new.param code = some v ∧ (∀ other, other ≠ code → new.param other = old.param other) ∧
        (let s' := { s with banks := { s.banks with bank := s.banks.bank.set b new } }
         run = .next (respond (answerOk
          (if selectedBank s = b ∧ old.param code ≠ some v then endPeriods (paramPeriods code) s' else s'))) ∧
         (code < 5 → endPeriods (paramPeriods code) s' = s'))

/-- SELECT_BANK (R140): its check, the mode, the selected bank by mode and SOURCE_IN; nothing more where the selected bank
stays, and otherwise the periods that have reached their new lengths end (R142). What that end is: nothing where no period
has reached its length; the period's own expiry where one alone has; and where several have, no offer is left whose answer or
drain timer has reached its length and no dwell that has reached it still runs. The order of the blocks (log entry 15) is
not part of this. -/
def Obligations.SelectBankSelects : Prop :=
  (∀ (kinds : List Period) (s : State),
    let ended := fun (p : Period) (n : Site) => p ∈ kinds ∧ p.reached s n = true
    let graceEnded := fun r : RailId => Period.grace ∈ kinds ∧ graceDue s r = true
    let t := endPeriods kinds s
    ((∀ p n, ¬ ended p n) → (∀ r, ¬ graceEnded r) → t = s) ∧
    (∀ p n i, SettingsOk s → p.command n = some i → ended p n → (∀ q m, ended q m → q = p ∧ m = n) →
      (∀ r, ¬ graceEnded r) → exec i s = .next t) ∧
    (∀ r, (∀ p n, ¬ ended p n) → graceEnded r → (∀ q, graceEnded q → q = r) → exec (.graceExpiry r) s = .next t) ∧
    (CarriersOk s → ∀ n,
      ((s.carrier n).power = .offered ∧ ended .answer n) ∨ ((s.carrier n).power = .draining ∧ ended .drain n) →
      (t.carrier n).power = .active ∧ (t.carrier n).load = none) ∧
    (SettingsOk s → CarriersOk s → RipeOk s → ∀ n st, (s.carrier n).dwell = .running st → ended .dwell n →
      (t.carrier n).dwell = .elapsed st ∨
      ((t.carrier n).dwell = .absent ∧ ((t.carrier n).power = .offered ∨ (t.carrier n).stale = true)))) ∧
  ∀ (code : Nat) (s : State),
    (2 < code → exec (.selectBank code) s = .next (respond (refuse .badField s))) ∧
    ∀ m : BankMode, code = m.code →
      let s' := { s with banks := { s.banks with mode := m } }
      ∃ t, exec (.selectBank code) s = .next (respond (answerOk t)) ∧
        t.banks = { s.banks with mode := m } ∧ Cascade s' t ∧
        selectedBank t = (match m with
          | .bank0 => 0
          | .bank1 => 1
          | .auto => if s.inputs.sourceIn.conditioned = true then 1 else 0) ∧
        (selectedBank s' = selectedBank s → t = s') ∧
        (selectedBank s' ≠ selectedBank s → t = endPeriods allPeriods s')

/-- The conditioning of a line (R134): a change of level starts the debounce timer, keeps it running, or stops it; its expiry
takes the present level, and site hold and the selected bank follow (R137, R140). SET_INPUTS (R135): its check, its writes,
and for each line the timer stopped, kept or started by the new polarity, expiring at once where it has reached the new
length. Both ways a conditioned level changes, site hold and the selected bank follow. That DEBOUNCE_EXPIRY is nothing before
its timer has reached the length is log entry 2. -/
def Obligations.LineConditioning : Prop :=
  (∀ (which : InputLine) (level : Bool) (s : State),
    let l := s.inputs.line which
    let differs := (level != l.activeLow) != l.conditioned
    let now' := fun timer => exec (.inputLevelChange which level) s =
      .next { s with inputs := s.inputs.setLine which { l with level := level, timer := timer } }
    (differs = false → now' none) ∧
    (differs = true → l.timer = none → s.inputs.debounce ≠ 0 → now' (some s.now)) ∧
    (differs = true → ∀ start, l.timer = some start →
      elapsedSince s start < debounceTicks s.inputs.debounce → now' (some start)) ∧
    (differs = true → l.timer = none → s.inputs.debounce = 0 → ∃ t, exec (.inputLevelChange which level) s = .next t ∧
      t.inputs = s.inputs.setLine which { l with level := level, timer := none, conditioned := !l.conditioned } ∧
      t = rebank (selectedBank s) (renight (night s) .hold { s with inputs := t.inputs }))) ∧
  (∀ (which : InputLine) (s : State),
    let l := s.inputs.line which
    (debounceDue s which = false → exec (.debounceExpiry which) s = .next s) ∧
    (debounceDue s which = true →
      exec (.debounceExpiry which) s = .next (rebank (selectedBank s) (renight (night s) .hold
        { s with inputs := s.inputs.setLine which { l with conditioned := l.level != l.activeLow, timer := none } })))) ∧
  (∀ (hold source debounce : Nat) (s : State),
    (1 < hold ∨ 1 < source ∨ 3 < debounce →
      exec (.setInputs hold source debounce) s = .next (respond (refuse .badField s))) ∧
    ∀ d : Fin 4, hold ≤ 1 → source ≤ 1 → debounce = d.val →
      let present := fun (l : Line) (low : Bool) => l.level != low
      let start := fun l : Line => l.timer.getD s.now
      let expires := fun (l : Line) (low : Bool) =>
        present l low ≠ l.conditioned ∧ debounceTicks d ≤ elapsedSince s (start l)
      let after : Line → Bool → Line := fun l low =>
        if present l low = l.conditioned then { l with activeLow := low, timer := none }
        else if debounceTicks d ≤ elapsedSince s (start l) then
          { l with activeLow := low, conditioned := present l low, timer := none }
        else { l with activeLow := low, timer := some (start l) }
      let u := { s with
        inputs := { s.inputs with
          holdIn := after s.inputs.holdIn (hold == 1), sourceIn := after s.inputs.sourceIn (source == 1), debounce := d } }
      ∃ t, exec (.setInputs hold source debounce) s = .next (respond (answerOk t)) ∧ Cascade u t ∧
        (¬ expires s.inputs.holdIn (hold == 1) → ¬ expires s.inputs.sourceIn (source == 1) → t = u))

/-! ### Tenant requests -/

/-- Translation of a taken request, for every kind that names a carrier: its three refusals in their order, each a REPLY and
no change of state (R10), and after it the unused bytes (R168 step 3); and a request of unknown kind (R168 step 1). -/
def Obligations.RequestGates : Prop :=
  (∀ (i : Instr) (t : Tenant) (kind num unused : Nat) (s : State), namedRequest i = some (t, kind, num, unused) →
    let p := s.port t
    let refused := fun code c => exec i s = .next (post t (.reply kind code num c none) s)
    p.canTake = true →
      (16 ≤ num → refused .badIndex none) ∧
      (num < 16 → pointerUsed p num = none → refused .notMapped none) ∧
      (∀ sl, num < 16 → pointerUsed p num = some sl →
        let n := siteAt sl num
        ((s.carrier n).provisioned = false ∨ (s.carrier n).owner ≠ t → refused .notOwned none) ∧
        ((s.carrier n).provisioned = true → (s.carrier n).owner = t → translate s t num = .ok n ∧
          (unused ≠ 0 → refused .badValue (lowestLocal s t n))))) ∧
  ∀ (t : Tenant) (kind num : Nat) (s : State), (s.port t).canTake = true →
    exec (.unknownTenantRequest t kind num) s = .next (post t (.reply kind .badKind num none none) s)

/-- A LOAD by power state (R22): refused outside ACTIVE, OFFERED and DRAINING; taken, it computes L (R24), seeds, re-seeds or
steps S (R25, R26, R38), clears the stale flag and restarts the stale timer (R30), unless its busy class withdraws the
carrier, which leaves it ACTIVE and unseeded (R32, R74). -/
def Obligations.LoadSmooths : Prop :=
  ∀ (t : Tenant) (num util users : Nat) (i : Site) (s : State), (s.port t).canTake = true → translate s t num = .ok i →
    let run := exec (.load t num util users 0) s
    let c := s.carrier i
    let b := bank s
    let level := min 1000 (min util 1000 + b.weight * users)
    let new := match c.load with
      | none => 16 * level
      | some old =>
        if c.stale = true then 16 * level
        else ((old : Int) + Int.tdiv (16 * (level : Int) - (old : Int)) (2 ^ b.shift)).toNat
    (c.power = .offline ∨ c.power = .waking ∨ c.power = .asleep ∨ c.power = .faulted →
      run = .next (post t (replyAbout s t i 0x01 num .wrongState) s)) ∧
    (c.power = .active ∨ ((c.power = .offered ∨ c.power = .draining) ∧ new < 16 * b.busyThreshold) →
      ∃ u, run = .next u ∧ (u.carrier i).load = some new ∧ (u.carrier i).stale = false ∧
        (u.carrier i).staleTimer = some s.now ∧ Cascade s u) ∧
    (c.power = .offered ∨ c.power = .draining → 16 * b.busyThreshold ≤ new → QueuesOk s →
      ∃ u, run = .next u ∧ (u.carrier i).power = .active ∧ (u.carrier i).load = none ∧
        (u.carrier i).stale = false ∧ (u.carrier i).staleTimer = none ∧ Cascade s u)

/-- The smoothing step adds to S the truncated quotient of 16 L − S by 2 to the power k (R26); it keeps S between its old
value and 16 L, so within 0 to 16000, and does not move it exactly when the difference is smaller than 2 to the power k
(R27). -/
def Obligations.SmoothingStaysBetween : Prop :=
  ∀ k old target : Nat, old ≤ 16000 → target ≤ 16000 →
    min old target ≤ smooth k old target ∧ smooth k old target ≤ max old target ∧ smooth k old target ≤ 16000 ∧
    (smooth k old target : Int) = (old : Int) + Int.tdiv ((target : Int) - (old : Int)) (2 ^ k) ∧
    (smooth k old target = old ↔ ((target : Int) - (old : Int)).natAbs < 2 ^ k)

/-- The class of a report (R28), the surge test (R29), and what the class does to the dwell of an ACTIVE CAPACITY carrier
(R31, R48, R49): below starts an absent dwell, band and below leave a running one, busy ends it and empties the place in
the queue. -/
def Obligations.ReportClassDrivesDwell : Prop :=
  (∀ (b : Bank) (trim : Int) (load : Nat),
    (classify b trim load = .busy ↔ 16 * b.busyThreshold ≤ load) ∧
    (classify b trim load = .below ↔ load < 16 * b.busyThreshold ∧
      (load : Int) < 16 * max 0 (min 1000 ((b.sleepThreshold : Int) + trim)))) ∧
  (∀ (b : Bank) (c : Carrier) (load : Nat),
    surges b c load = true ↔ c.role = .coverage ∧ 16 * b.surgeThreshold ≤ load) ∧
  ∀ (t : Tenant) (num util users : Nat) (i : Site) (s : State), (s.port t).canTake = true → translate s t num = .ok i →
    (s.carrier i).power = .active → (s.carrier i).role = .capacity →
    let c := s.carrier i
    let cls := classify (bank s) c.trim (newLoad (bank s) c (effectiveLoad (bank s) util users))
    ∃ u, exec (.load t num util users 0) s = .next u ∧
      (cls = .below → c.dwell = .absent → (u.carrier i).dwell = .running s.now ∧ (u.carrier i).power = .active) ∧
      (∀ st, cls ≠ .busy → c.dwell = .running st →
        (u.carrier i).dwell = .running st ∧ (u.carrier i).power = .active) ∧
      (cls = .busy → (u.carrier i).dwell = .absent ∧ (u.carrier i).power = .active ∧
        (c.dwell ≠ .absent → i ∉ (u.port c.owner).offerQueue))

/-- A surge (R91): a report of an ACTIVE COVERAGE carrier that meets the surge test wakes nothing where the carrier is
surge-suspended, where its holdoff runs, or where no sleeper lists it; else it wakes the one nearest the top of the stack
that does, and starts the holdoff. -/
def Obligations.SurgeWakesOneSleeper : Prop :=
  ∀ (t : Tenant) (num util users : Nat) (i : Site) (s : State), (s.port t).canTake = true → translate s t num = .ok i →
    (s.carrier i).power = .active → (s.carrier i).role = .coverage → QueuesOk s → StackOk s →
    let c := s.carrier i
    16 * (bank s).surgeThreshold ≤ newLoad (bank s) c (effectiveLoad (bank s) util users) →
    ∃ u, exec (.load t num util users 0) s = .next u ∧
      (0 < drainingDependents s i ∨ c.holdoff ≠ none ∨ (∀ n ∈ s.stack, i ∉ (s.carrier n).anchors) →
        u.stack = s.stack ∧ (u.carrier i).holdoff = c.holdoff ∧ u.rails = s.rails) ∧
      (drainingDependents s i = 0 → c.holdoff = none → ∀ (above below : List Site) (n : Site),
        s.stack = above ++ n :: below → i ∈ (s.carrier n).anchors → (∀ m ∈ above, i ∉ (s.carrier m).anchors) →
        u.stack = above ++ below ∧ (u.carrier n).power ≠ .asleep ∧ (u.carrier i).holdoff = some s.now)

/-- Coverage restoration (R97): of the dependents of a carrier that is not ACTIVE, those with no ACTIVE anchor are moved out
of OFFERED, DRAINING and ASLEEP, by withdrawal with reason COVERAGE or by an urgent wake, and every other carrier in those
states, a dependent with another ACTIVE anchor among them, stays as it is. -/
def Obligations.RestorationSparesTheCovered : Prop :=
  ∀ (x : Site) (s : State), CarriersOk s → AnchorsOk s → (s.carrier x).power ≠ .active →
    (∀ u, ∀ n ∈ (s.port u).offerQueue, someAnchorFit s n = true) →
    let t := restoration x s
    (∀ n, dependent s x n = true → someAnchorActive s n = false → (t.carrier n).power.sleepward = false) ∧
    (∀ n, (s.carrier n).power.sleepward = true → dependent s x n = false ∨ someAnchorActive s n = true →
      (t.carrier n).power = (s.carrier n).power) ∧
    (∀ n, (s.carrier n).role = .coverage → (t.carrier n).power = (s.carrier n).power) ∧
    ∀ n, dependent s x n = true → someAnchorActive s n = false →
      let r := (s.carrier n).rail
      ((s.carrier n).power.inExchange = true → (s.port (s.carrier n).owner).link ≠ .disabled →
        Notice.withdraw n (noticeNumber s n) (s.carrier n).token .coverage ∈ (t.port (s.carrier n).owner).notices) ∧
      ((s.carrier n).power = .asleep → s.ramp.slot ≠ none →
        (s.rail r).state = .off ∨ ((s.rail r).state = .queued ∧ r ∈ s.ramp.ordinary) → r ∈ t.ramp.urgent)

/-- An answer that does not match the offer in force is refused with STALE_TOKEN and changes nothing (R64), and a taken
ACCEPT starts the drain, which raises the draining-dependent count of each anchor by one, and changes nothing else
(R65). -/
def Obligations.AnswersMatchOrAreRefused : Prop :=
  ∀ (t : Tenant) (num token : Nat) (i : Site) (s : State), (s.port t).canTake = true → translate s t num = .ok i →
    let c := s.carrier i
    let stale := fun kind => Host.Outcome.next (φ := Fault) (ρ := Refusal)
      (post t (replyAbout s t i kind num .staleToken) s)
    (c.power ≠ .offered ∨ c.token.toNat ≠ token → exec (.accept t num token 0) s = stale 0x02) ∧
    ((c.power ≠ .offered ∧ c.power ≠ .draining) ∨ c.token.toNat ≠ token →
      exec (.decline t num token 0) s = stale 0x03 ∧ exec (.drained t num token 0) s = stale 0x04) ∧
    (c.power = .offered → c.token.toNat = token →
      exec (.accept t num token 0) s = .next (post t (replyAbout s t i 0x02 num .ok)
        (s.modCarrier i fun c =>
          { c with power := .draining, answerTimer := none, drainTimer := some s.now })) ∧
      (c.role = .capacity → ∀ x ∈ c.anchors,
        drainingDependents (s.modCarrier i fun c => { c with power := .draining }) x = drainingDependents s x + 1))

/-- A taken DRAINED puts the carrier to ASLEEP on top of the stack with its timers stopped and the rest of its record kept
(R67, R87), and starts the surge holdoff of each ACTIVE anchor that has no other dependent draining (R84); its REPLY is
posted last (R68). -/
def Obligations.DrainedPutsToSleep : Prop :=
  ∀ (t : Tenant) (num : Nat) (i : Site) (s : State), (s.port t).canTake = true → translate s t num = .ok i →
    (s.carrier i).power = .offered ∨ (s.carrier i).power = .draining → QueuesOk s →
    ∃ u, exec (.drained t num (s.carrier i).token.toNat 0) s = .next (post t (replyAbout s t i 0x04 num .ok) u) ∧
      u.carrier i =
        { s.carrier i with power := .asleep, answerTimer := none, drainTimer := none, staleTimer := none } ∧
      u.stack = i :: s.stack ∧
      (∀ x ∈ (s.carrier i).anchors, (s.carrier x).power = .active →
        (∀ n, n ≠ i → dependent s x n = true → (s.carrier n).power ≠ .draining) →
        (u.carrier x).holdoff = some s.now) ∧
      Cascade s u

/-- WAKE by power state (R94), and CLEAR and CLEAR_FAULT naming a carrier (R152): the refusals, and the entry to WAKING of
those taken, a woken sleeper leaving the stack first (R88). -/
def Obligations.WakeAndClearRequests : Prop :=
  (∀ (t : Tenant) (num : Nat) (i : Site) (s : State), (s.port t).canTake = true → translate s t num = .ok i →
    let c := s.carrier i
    let answer := fun kind code u => Host.Outcome.next (φ := Fault) (ρ := Refusal)
      (post t (replyAbout s t i kind num code) u)
    (c.power = .active ∨ c.power = .waking → exec (.wake t num 0) s = answer 0x05 .ok s) ∧
    (c.power = .offline ∨ c.power = .faulted → exec (.wake t num 0) s = answer 0x05 .wrongState s) ∧
    (c.power = .offered ∨ c.power = .draining → exec (.wake t num 0) s = answer 0x05 .ok (withdraw i .busy s)) ∧
    (c.power = .asleep → exec (.wake t num 0) s =
      answer 0x05 .ok (enterWaking i .ordinary { s with stack := s.stack.filter (· != i) })) ∧
    (c.power ≠ .faulted ∨ c.cause ≠ some .tenant → exec (.clear t num 0) s = answer 0x09 .wrongState s) ∧
    (c.power = .faulted → c.cause = some .tenant →
      exec (.clear t num 0) s = answer 0x09 .ok (enterWaking i .ordinary s))) ∧
  (∀ (n : Nat) (s : State),
    (32 ≤ n → exec (.clearFaultCarrier n) s = .next (respond (refuse .noSuch s))) ∧
    ∀ i : Site, n = i.val →
      if (s.carrier i).provisioned = false then exec (.clearFaultCarrier n) s = .next (respond (refuse .noSuch s))
      else if (s.carrier i).power = .faulted ∧ (s.carrier i).cause = some .tenant then
        exec (.clearFaultCarrier n) s = .next (respond (answerOk (enterWaking i .ordinary s)))
      else exec (.clearFaultCarrier n) s = .next (respond (refuse .wrongState s)))

/-- A tenant FAULT (R151): refused in OFFLINE and FAULTED; otherwise the carrier is FAULTED with cause TENANT, out of queue
and stack, with its pins, token, S and stale flag kept, the held rail whose last sleeper it was enters OFF (R109, R111), and
its REPLY is posted last. -/
def Obligations.FaultTakesOutOfService : Prop :=
  ∀ (t : Tenant) (num : Nat) (i : Site) (s : State), (s.port t).canTake = true → translate s t num = .ok i →
    let c := s.carrier i
    (c.power = .offline ∨ c.power = .faulted →
      exec (.fault t num 0) s = .next (post t (replyAbout s t i 0x08 num .wrongState) s)) ∧
    (c.power ≠ .offline → c.power ≠ .faulted → QueuesOk s →
      ∃ u, exec (.fault t num 0) s = .next (post t (replyAbout s t i 0x08 num .ok) u) ∧
        u.carrier i =
          { c with
            power := .faulted, cause := some .tenant, staleTimer := none, dwell := .absent, ripeTime := none,
            answerTimer := none, drainTimer := none, holdoff := none } ∧
        i ∉ u.stack ∧ (∀ w, i ∉ (u.port w).offerQueue) ∧ Cascade s u ∧
        (c.power = .asleep → ∀ q, u.rail q =
          if q = c.rail ∧ (s.rail q).state = .hold ∧ (s.rail q).held = true ∧ sleepersOn s q = 1 then
            { s.rail q with state := .off, graceTimer := none, held := false }
          else s.rail q))

/-- QUERY changes nothing but the notice queue, where its REPLY carries the five values of the moment (R170). -/
def Obligations.QueryReports : Prop :=
  ∀ (t : Tenant) (num : Nat) (i : Site) (s : State), (s.port t).canTake = true → translate s t num = .ok i →
    let c := s.carrier i
    exec (.query t num 0) s = .next (post t
      (.reply 0x0A .ok num (lowestLocal s t i) (some ⟨c.power, c.load, c.stale, c.pins, c.token⟩)) s)

/-! ### Links and alerts -/

/-- SET_PORT: its checks in their order and its four effects (R147), with what entering LINKED starts and the LINK pins it
lifts (R148; the FIFO of a DISABLED port is empty, R175), and what entering DISABLED leaves and the LINK pins it adds (R149,
R175). -/
def Obligations.SetPortEffects : Prop :=
  ∀ (tenant enable window slots : Nat) (s : State),
    let run := exec (.setPort tenant enable window slots) s
    let bad := window = 1 ∨ 60 < window ∨ slots = 0 ∨ 4 < slots
    (2 < tenant ∨ 1 < enable ∨ bad → run = .next (respond (refuse .badField s))) ∧
    ∀ t : Tenant, tenant = tenantCode t → ¬ bad →
      let p := s.port t
      let written := s.modPort t fun p => { p with linkWindow := window, drainSlots := slots }
      (p.link = .disabled → enable = 0 → run = .next (respond (answerOk written))) ∧
      (p.link ≠ .disabled → enable = 1 → (window ≠ p.linkWindow ∨ slots ≠ p.drainSlots) →
        run = .next (respond (refuse .wrongState s))) ∧
      (p.link ≠ .disabled → enable = 1 → window = p.linkWindow → slots = p.drainSlots →
        run = .next (respond (answerOk s))) ∧
      (p.link = .disabled → enable = 1 → ∃ u, run = .next (respond (answerOk u)) ∧
        (u.port t).link = .linked ∧ (u.port t).linkWindow = window ∧ (u.port t).drainSlots = slots ∧
        (u.port t).windowTimer = (if window = 0 then none else some s.now) ∧
        (p.fifo = [] →
          (∀ n, (u.carrier n).pins =
            if (s.carrier n).owner = t then { (s.carrier n).pins with link := false } else (s.carrier n).pins) ∧
          u.rails = s.rails ∧ u.stack = s.stack ∧ u.alerts = s.alerts)) ∧
      (p.link ≠ .disabled → enable = 0 → CarriersOk s → ∃ u, run = .next (respond (answerOk u)) ∧
        u.port t =
          { p with
            link := .disabled, linkWindow := window, drainSlots := slots, windowTimer := none, offerQueue := [],
            fifo := [], notices := [], latch := none, overrun := false, transfer := .idle, stallTimer := none } ∧
        (∀ n, (s.carrier n).owner = t → (u.carrier n).power.sleepward = false ∧
          ((s.carrier n).power ≠ .offline → (u.carrier n).pins = { (s.carrier n).pins with link := true })) ∧
        (∀ n, (s.carrier n).owner ≠ t → (u.carrier n).pins = (s.carrier n).pins) ∧ u.alerts = s.alerts)

/-- The expiry of the link window timer of a LINKED tenant (R146, R149): LOST, TENANT_LOST in the alert set, no offer,
no sleeper and no queue of that tenant, and the LINK pin on each of its carriers that is not OFFLINE. A frame that passes
on a LOST port, here a POLL that finds the FIFO empty, returns the tenant to LINKED and lifts those pins (R146, R148). That
the expiry command is nothing before the timer has reached the link window is log entry 2. -/
def Obligations.LinkLossAndReturn : Prop :=
  (∀ (t : Tenant) (s : State),
    (linkWindowDue s t = false → exec (.linkWindowExpiry t) s = .next s) ∧
    (linkWindowDue s t = true → (s.port t).link = .linked → CarriersOk s →
      ∃ u, exec (.linkWindowExpiry t) s = .next u ∧
        (u.port t).link = .lost ∧ (u.port t).windowTimer = none ∧ (u.port t).offerQueue = [] ∧
        (∀ k : Fin 10, u.alerts[k] = if k.val = 4 + tenantCode t then true else s.alerts[k]) ∧
        (∀ n, (s.carrier n).owner = t → (u.carrier n).power.sleepward = false ∧
          ((s.carrier n).power ≠ .offline → (u.carrier n).pins = { (s.carrier n).pins with link := true })) ∧
        (∀ n, (s.carrier n).owner ≠ t → (u.carrier n).pins = (s.carrier n).pins))) ∧
  ∀ (t : Tenant) (edges : Nat) (inb out : BitVec 128) (s : State),
    let p := s.port t
    p.tselHigh = false → p.transfer = .active edges inb out → 128 ≤ edges → p.link = .lost → p.fifo = [] →
    framePasses inb = true → frameByte inb 1 = 0 →
      ∃ u, exec (.frameEnd t) s = .next u ∧
        (u.port t).link = .linked ∧
        (u.port t).windowTimer = (if p.linkWindow = 0 then none else some s.now) ∧
        (∀ n, (u.carrier n).pins =
          if (s.carrier n).owner = t then { (s.carrier n).pins with link := false } else (s.carrier n).pins) ∧
        u.rails = s.rails ∧ u.stack = s.stack ∧ u.alerts = s.alerts

/-- ACK_ALERT: its check, and the entries it removes, those absent being ignored (R157). -/
def Obligations.AckAlertRemoves : Prop :=
  ∀ (count : Nat) (slots : List Nat) (s : State),
    ((10 < count ∨ ∃ k ∈ slots.take count, 10 ≤ k) →
      exec (.ackAlert count slots) s = .next (respond (refuse .badField s))) ∧
    (count ≤ 10 → (∀ k ∈ slots.take count, k < 10) →
      ∃ v : Vector Bool 10, exec (.ackAlert count slots) s = .next (respond (answerOk { s with alerts := v })) ∧
        ∀ k : Fin 10, v[k] = if k.val ∈ slots.take count then false else s.alerts[k])

/-- The wires of a transfer. A fall of TSEL latches the head notice, fixes the outbound frame and starts the stall timer
(R161, R163); each rising edge of TCLK shifts a bit up to the 128th, restarts the stall timer up to the 127th and stops it
at the 128th (R160, R161); a DISABLED port watches neither line. Of an incomplete transfer, stalled or cut short, the bytes
are discarded, and the latched notice returns to the head of the queue unless a state notice about the same carrier was
posted meanwhile (R172). That an edge to the level a line has, or a timeout before the stall timer has reached 5 ms, is
nothing is log entries 23 and 2. -/
def Obligations.TransfersOnTheWires : Prop :=
  (∀ (t : Tenant) (s : State),
    let p := s.port t
    (p.tselHigh = false → exec (.transferStart t) s = .next (s.modPort t fun p => p)) ∧
    (p.tselHigh = true → p.link = .disabled →
      exec (.transferStart t) s = .next (s.modPort t fun p => { p with tselHigh := false })) ∧
    (p.tselHigh = true → p.link ≠ .disabled →
      exec (.transferStart t) s = .next (s.modPort t fun p =>
        { p with
          latch := p.notices.head?, notices := p.notices.tail, stallTimer := some s.now, tselHigh := false,
          transfer := .active 0 0
            (shiftRegister (outboundFrame p.notices.head? p.overrun p.notices.tail.length)) }))) ∧
  (∀ (t : Tenant) (bit : Bool) (s : State),
    let p := s.port t
    (p.link = .disabled ∨ p.transfer = .idle ∨ p.transfer = .abandoned →
      exec (.tclkRisingEdge t bit) s = .next (s.modPort t fun p => p)) ∧
    ∀ edges inb out, p.link ≠ .disabled → p.transfer = .active edges inb out →
      (edges < 127 → exec (.tclkRisingEdge t bit) s = .next (s.modPort t fun p =>
        { p with
          transfer := .active (edges + 1) (inb <<< 1 ||| (BitVec.ofBool bit).setWidth 128) out,
          stallTimer := some s.now })) ∧
      (edges = 127 → exec (.tclkRisingEdge t bit) s = .next (s.modPort t fun p =>
        { p with
          transfer := .active 128 (inb <<< 1 ||| (BitVec.ofBool bit).setWidth 128) out, stallTimer := none })) ∧
      (128 ≤ edges → exec (.tclkRisingEdge t bit) s = .next (s.modPort t fun p =>
        { p with transfer := .active (edges + 1) inb out }))) ∧
  ∀ (t : Tenant) (s : State),
    let p := s.port t
    let back := fun p : Port => match p.latch with
      | none => p.notices
      | some x => if x.about.isSome = true ∧ (∃ y ∈ p.notices, y.about = x.about) then p.notices else x :: p.notices
    (stallDue s t = false → exec (.stallTimeout t) s = .next s) ∧
    (∀ edges inb out, stallDue s t = true → p.transfer = .active edges inb out →
      exec (.stallTimeout t) s = .next (s.modPort t fun p =>
        { p with notices := back p, latch := none, transfer := .abandoned, stallTimer := none })) ∧
    (p.tselHigh = true → exec (.frameEnd t) s = .next s) ∧
    (p.tselHigh = false → p.transfer = .idle →
      exec (.frameEnd t) s = .next (s.modPort t fun p => { p with tselHigh := true })) ∧
    (p.tselHigh = false → p.transfer = .abandoned →
      exec (.frameEnd t) s = .next (s.modPort t fun p => { p with tselHigh := true, transfer := .idle })) ∧
    (∀ edges inb out, p.tselHigh = false → p.transfer = .active edges inb out → edges < 128 →
      exec (.frameEnd t) s = .next (s.modPort t fun p =>
        { p with notices := back p, latch := none, transfer := .idle, stallTimer := none, tselHigh := true })) ∧
    (p.link = .disabled ∨ p.transfer = .abandoned → tdout s t = false) ∧
    (∀ edges inb out, p.link ≠ .disabled → p.transfer = .active edges inb out →
      tdout s t = (decide (edges < 128) && out.getLsbD (127 - edges)))

/-- Every outbound frame has 16 bytes, begins with the marker and carries a correct check (R162), has the notice's kind in
byte 1 and the port status in byte 2 (R188), and as a shift register passes the inbound test. -/
def Obligations.OutboundFramePasses : Prop :=
  ∀ (x : Option Notice) (overrun : Bool) (waiting : Nat), waiting ≤ 24 →
    let bytes := outboundFrame x overrun waiting
    bytes.length = 16 ∧ bytes[0]? = some 0xC3 ∧ bytes[1]? = some (byteOf (noticeKind x)) ∧
    bytes[2]? = some (byteOf ((if overrun then 128 else 0) + waiting)) ∧
    (bytes.map BitVec.toNat).sum % 256 = 255 ∧ frameBytes (shiftRegister bytes) = bytes ∧
    framePasses (shiftRegister bytes) = true

/-- The end of a complete transfer on a LINKED port whose latch held no REPLY: a frame that fails only raises the frame error
count (R162); one that passes restarts the link window (R146), and then a POLL does nothing (R165), a RESYNC clears overrun,
FIFO and replies (R167), and a request meeting a full FIFO sets the overrun flag and adds PORT_OVERRUN (R166). -/
def Obligations.FrameEndOnLink : Prop :=
  ∀ (t : Tenant) (edges : Nat) (inb out : BitVec 128) (s : State),
    let p := s.port t
    let ended := fun p : Port =>
      { p with latch := none, transfer := .idle, stallTimer := none, tselHigh := true }
    let heard := fun p : Port =>
      { ended p with windowTimer := if p.linkWindow = 0 then none else some s.now }
    let kind := (frameByte inb 1).toNat
    p.tselHigh = false → p.transfer = .active edges inb out → 128 ≤ edges → p.link = .linked →
    (∀ x, p.latch = some x → x.isReply = false) →
      (framePasses inb = false → exec (.frameEnd t) s = .next (s.modPort t fun p =>
        { ended p with frameErrors := if p.frameErrors < 65535 then p.frameErrors + 1 else p.frameErrors })) ∧
      (framePasses inb = true →
        (kind = 0x00 → p.fifo = [] → exec (.frameEnd t) s = .next (s.modPort t heard)) ∧
        (kind = 0x0F → exec (.frameEnd t) s = .next (s.modPort t fun p =>
          { heard p with overrun := false, fifo := [], notices := p.notices.filter fun x => !x.isReply })) ∧
        (kind ≠ 0x00 → kind ≠ 0x0F → p.overrun = true → p.fifo = [] →
          exec (.frameEnd t) s = .next (s.modPort t heard)) ∧
        (kind ≠ 0x00 → kind ≠ 0x0F → p.overrun = false → p.fifo.length = 2 → p.replies = 8 →
          exec (.frameEnd t) s = .next (addAlert (portOverrunCode t) (s.modPort t fun p =>
            { heard p with overrun := true }))))

/-- A request that arrives in a passing frame on a LINKED port with an empty FIFO and a free reply slot is taken at the end
of that frame: the frame's end is the run of the request's own command on the port as the frame left it (R164, R165,
R168). That a request's own command changes nothing while the port cannot take one is the model's choice (log entry 9). -/
def Obligations.FrameRunsItsRequest : Prop :=
  (∀ (t : Tenant) (edges : Nat) (inb out : BitVec 128) (s : State),
      let p := s.port t
      let kind := (frameByte inb 1).toNat
      p.tselHigh = false → p.transfer = .active edges inb out → 128 ≤ edges → p.link = .linked → p.fifo = [] →
      p.overrun = false → (p.notices.countP Notice.isReply) < 8 → framePasses inb = true →
      kind ≠ 0x00 → kind ≠ 0x0F →
        exec (.frameEnd t) s = exec (decodeRequest t (frameRequest inb)) (s.modPort t fun p =>
          { p with
            latch := none, transfer := .idle, stallTimer := none, tselHigh := true,
            windowTimer := if p.linkWindow = 0 then none else some s.now })) ∧
  (∀ (i : Instr) (t : Tenant) (kind num unused : Nat) (s : State), namedRequest i = some (t, kind, num, unused) →
    (s.port t).canTake = false → exec i s = .next s) ∧
  ∀ (t : Tenant) (kind num : Nat) (s : State), (s.port t).canTake = false →
    exec (.unknownTenantRequest t kind num) s = .next s

/-! ### The site port -/

/-- The bus events of the site port: a START with its address (R177), a STOP, a data byte each way (R178, R180), the edges of
SCL and the bus timeout (R181). A write's record, which a START or STOP processes, is another claim's. The model's choices:
that a timeout before the bus timer has reached 25 ms is nothing (log entry 2), what stands on SDA (log entry 24), and that
START and STOP, which happen with SCL high, leave SCL high and the bus timer stopped (log entry 29). -/
def Obligations.SitePortBus : Prop :=
  ∀ s : State,
    let m := s.mgmt
    let at' := fun m' => Host.Outcome.next (φ := Fault) (ρ := Refusal) { s with mgmt := m' }
    (m.txn ≠ .receiving ∨ m.buffer = [] →
      (∀ read, exec (.i2cStartCondition m.address read) s =
        at' { m with
          txn := if read then .sending 0 false else .receiving, buffer := [], busTimer := none, sclHigh := true,
          sda := .ack }) ∧
      (∀ address read, address ≠ m.address → exec (.i2cStartCondition address read) s =
        at' { m with txn := .ignoring, buffer := [], busTimer := none, sclHigh := true, sda := .released }) ∧
      exec .i2cStopCondition s =
        at' { m with txn := .idle, buffer := [], busTimer := none, sclHigh := true, sda := .released }) ∧
    (∀ byte ack,
      (m.txn = .receiving → m.buffer.length < 32 → exec (.i2cDataByte byte ack) s =
        at' { m with buffer := m.buffer ++ [byte], sda := .ack }) ∧
      (m.txn = .receiving → 32 ≤ m.buffer.length → exec (.i2cDataByte byte ack) s = at' { m with sda := .released }) ∧
      (∀ k, m.txn = .sending k false → exec (.i2cDataByte byte ack) s =
        at' { m with
          txn := .sending (k + 1) (!ack),
          sda := .data ((byteOf m.response.result.code :: byteOf m.response.data.length :: m.response.data).getD k
            0xFF) }) ∧
      (∀ k, m.txn = .sending k true → exec (.i2cDataByte byte ack) s = at' { m with sda := .released }) ∧
      (m.txn = .idle ∨ m.txn = .ignoring → exec (.i2cDataByte byte ack) s = at' m)) ∧
    (m.txn = .receiving ∨ (∃ k released, m.txn = .sending k released) →
      exec (.sclEdge false) s = at' { m with sclHigh := false, busTimer := some s.now } ∧
      exec (.sclEdge true) s = at' { m with sclHigh := true, busTimer := none } ∧
      (busDue s = true → exec .busTimeout s =
        at' { m with txn := .idle, buffer := [], busTimer := none, sda := .released })) ∧
    (m.txn = .idle ∨ m.txn = .ignoring → ∀ rising, exec (.sclEdge rising) s = at' { m with sclHigh := rising }) ∧
    (busDue s = false → exec .busTimeout s = .next s)

/-- A record written to the port and ended by a STOP runs the request it spells: the same state as the request's own command,
with the port idle (R179, R182). One that names no request is refused, with the code of the first step of R179 that refuses
it, or BAD_FIELD for a CLEAR_FAULT that names neither a carrier nor a rail (R182), and changes no other state. -/
def Obligations.SiteRecordsAreProcessed : Prop :=
  (∀ (i : Instr) (bytes : List Byte) (s : State), i.wellFormed = true → encodeRecord i = some bytes →
      s.mgmt.txn = .receiving → s.mgmt.buffer = bytes →
      ∃ u, exec i s = .next u ∧
        exec .i2cStopCondition s = .next { u with
          mgmt := { u.mgmt with txn := .idle, buffer := [], busTimer := none, sclHigh := true, sda := .released } }) ∧
  ∀ (bytes : List Byte) (s : State), bytes ≠ [] →
    let refused := fun code => exec (.malformedSiteRecord bytes) s = .next (respond (refuse code s))
    (bytes.length < 2 → refused .badLength) ∧
    ∀ kind len fields, bytes = kind :: len :: fields →
      (len.toNat ≠ fields.length → refused .badLength) ∧
      (len.toNat = fields.length → recordLength kind.toNat = none → refused .badKind) ∧
      (len.toNat = fields.length → ∀ l, recordLength kind.toNat = some l → l ≠ fields.length → refused .badLength) ∧
      (∀ target number : Byte, kind = 0x12 → len = 2 → fields = [target, number] → 1 < target.toNat →
        refused .badField)

/-- Every site request within the widths of its fields is read back from its record (R192): no bit of a record is dropped. -/
def Obligations.RecordRoundTrip : Prop :=
  ∀ (i : Instr) (bytes : List Byte), i.wellFormed = true → encodeRecord i = some bytes →
    decodeRecord bytes = i ∧ 2 ≤ bytes.length ∧ bytes.length ≤ 32

/-- The five read requests (R183 to R186): whom they refuse; taken, they change nothing but the response record, whose data
have the lengths that R193 gives and hold the fields named here at their places. READ_RAIL shows RAIL_PG as it stands (R128):
the level the part knows, of a rail in ON or HOLD or told at this moment, and otherwise the free value of this read, which
uses it up (log entry 5). That an asserted RAIL_EN reads 1 is log entry 35. -/
def Obligations.ReadRequests : Prop :=
  ∀ s : State,
    (∀ n, 32 ≤ n → exec (.readCarrier n) s = .next (respond (refuse .noSuch s))) ∧
    (∀ r, 4 ≤ r → exec (.readRail r) s = .next (respond (refuse .noSuch s))) ∧
    (∀ t, 3 ≤ t → exec (.readTenant t) s = .next (respond (refuse .badField s))) ∧
    (∀ i : Site, ∃ d, exec (.readCarrier i.val) s = .next (respond (s, ⟨.ok, d⟩)) ∧ d.length = 68 ∧
      d[0]? = some (byteOf (s.carrier i).provisioned.toNat) ∧ d[10]? = some (byteOf (s.carrier i).power.code) ∧
      d[12]? = some (byteOf (s.carrier i).pins.code) ∧ d[44]? = some (s.carrier i).token) ∧
    (∀ r : RailId, ∃ d, exec (.readRail r.val) s =
        .next (respond ({ s with envReads := s.envReads + 1 }, ⟨.ok, d⟩)) ∧ d.length = 44 ∧
      d[10]? = some (byteOf (s.rail r).state.code) ∧ d[13]? = some (byteOf (needCount s r)) ∧
      ∃ b : Byte, d[14]? = some b ∧ b.getLsbD 2 = (s.rail r).state.enabled ∧
        b.getLsbD 3 = if (s.rail r).state = .on ∨ (s.rail r).state = .hold ∨ (s.rail r).toldAt = some s.now then
            (s.rail r).powerGood
          else Config.railPowerGood s.envReads) ∧
    (∀ t : Tenant, ∃ d, exec (.readTenant (tenantCode t)) s = .next (respond (s, ⟨.ok, d⟩)) ∧ d.length = 37 ∧
      d[0]? = some (byteOf (s.port t).link.code) ∧ d[13]? = some (byteOf (outstanding s t)) ∧
      d[33]? = some (byteOf (s.port t).fifo.length)) ∧
    (∃ d, exec .readSite s = .next (respond (s, ⟨.ok, d⟩)) ∧ d.length = 39 ∧
      d[36]? = some (byteOf s.stack.length) ∧ d.take 3 = beBytes 3 s.clock.tod) ∧
    (∃ d, exec .readTally s = .next (respond (s, ⟨.ok, d⟩)) ∧ d.length = 52 ∧
      (∀ r : RailId, (d.drop (12 * r.val + 8)).take 4 =
        beBytes 4 ((s.rail r).offSeconds * (s.rail r).idlePower / 3600)) ∧
      d.drop 48 = beBytes 4 ((List.ofFn fun r : RailId =>
        (s.rail r).offSeconds * (s.rail r).idlePower / 3600).sum))

/-! ### Timers of the carriers -/

/-- The expiry of the stale timer in ACTIVE, OFFERED and DRAINING (R34, R35, R36), of the answer timer and the drain timer
(R69, R70), the elapsing of a running dwell (R50) and the passing of a running min-awake with its expiry kept (R51), each
followed by the re-evaluation of ripeness, and the end of a surge holdoff, which wakes nothing (R92). Of a stale COVERAGE
carrier the dependents are re-evaluated: none without a fit anchor stays queued (R34, R53). Each happens when its timer has
reached its length; that the command is nothing before that is log entry 2. -/
def Obligations.CarrierExpiries : Prop :=
  ∀ (n : Site) (s : State),
    let c := s.carrier n
    let staled := (s.modPort c.owner fun p => { p with offerQueue := p.offerQueue.filter (· != n) }).modCarrier n
      fun c => { c with staleTimer := none, stale := true, dwell := .absent, ripeTime := none }
    (staleDue s n = false → exec (.staleTimerExpiry n) s = .next s) ∧
    (answerDue s n = false → exec (.answerTimerExpiry n) s = .next s) ∧
    (drainDue s n = false → exec (.drainTimerExpiry n) s = .next s) ∧
    (dwellDue s n = false → exec (.dwellElapses n) s = .next s) ∧
    (minAwakeDue s n = false → exec (.minAwakePasses n) s = .next s) ∧
    (holdoffDue s n = false → exec (.surgeHoldoffEnds n) s = .next s) ∧
    (staleDue s n = true → c.power = .active → c.role = .capacity → exec (.staleTimerExpiry n) s = .next staled) ∧
    (staleDue s n = true → c.power = .active → c.role = .coverage → ∃ t, exec (.staleTimerExpiry n) s = .next t ∧
      t = reevalDependents n staled ∧ Cascade s t ∧
      (∀ m, dependent s n m = true → someAnchorFit staled m = false →
        m ∉ (t.port (s.carrier m).owner).offerQueue) ∧
      (QueuesOk s → t.carrier n = staled.carrier n)) ∧
    (staleDue s n = true → c.power = .offered → exec (.staleTimerExpiry n) s = .next (withdraw n .stale s)) ∧
    (staleDue s n = true → c.power = .draining →
      exec (.staleTimerExpiry n) s = .next (s.modCarrier n fun c => { c with staleTimer := none })) ∧
    (answerDue s n = true → c.power = .offered → exec (.answerTimerExpiry n) s = .next (withdraw n .timeout s)) ∧
    (drainDue s n = true → c.power = .draining → exec (.drainTimerExpiry n) s = .next (withdraw n .timeout s)) ∧
    (∀ st, dwellDue s n = true → c.dwell = .running st → exec (.dwellElapses n) s =
      .next (reeval n (s.modCarrier n fun c => { c with dwell := .elapsed st }))) ∧
    (∀ e, minAwakeDue s n = true → c.minAwake = .running e → exec (.minAwakePasses n) s =
      .next (reeval n (s.modCarrier n fun c =>
        { c with minAwake := .passed (e + BitVec.ofNat 48 (1000 * (bank s).minAwake)) }))) ∧
    (holdoffDue s n = true →
      exec (.surgeHoldoffEnds n) s = .next (s.modCarrier n fun c => { c with holdoff := none }))

/-! ### Laws that every step keeps -/

/-- Every step keeps every setting, count and tally in its range (R41, R105, R131, R138, R139, R145, R176, R178), and the three
conditions on the anchor lists (R2). -/
def Obligations.StepKeepsConfiguration : Prop :=
  (∀ s t : State, SettingsOk s → step s = .next t → SettingsOk t) ∧
  ∀ s t : State, AnchorsOk s → step s = .next t → AnchorsOk t

/-- Every step keeps the records, the offer queues and the sleep stack in agreement: no COVERAGE carrier OFFERED, DRAINING or
ASLEEP (R5), the exchange's timers with their states (R61), S within 0 to 16000 (R27), the stack exactly the sleepers
(R86). -/
def Obligations.StepKeepsCarriers : Prop :=
  ∀ s t : State, CarriersOk s → step s = .next t → CarriersOk t

/-- Every step keeps each tenant's offers within its drain slots (R57) and a tenant that is not LINKED without offers and
sleepers (R149). -/
def Obligations.StepKeepsDrainSlots : Prop :=
  ∀ s t : State, CarriersOk s → SlotsOk s → step s = .next t → SlotsOk t

/-- Every step keeps the law that no carrier is OFFERED, DRAINING or ASLEEP while night is false (R46). -/
def Obligations.StepKeepsNight : Prop :=
  ∀ s t : State, CarriersOk s → NightOk s → step s = .next t → NightOk t

/-- Every step keeps an ACTIVE anchor under every carrier that is OFFERED, DRAINING or ASLEEP (R77, R97). -/
def Obligations.StepKeepsCoverage : Prop :=
  ∀ s t : State, CarriersOk s → AnchorsOk s → CoverageOk s → step s = .next t → CoverageOk t

/-- Every step keeps the ramp queue, the ramp slot and the rails' states in agreement: at most one rail ramps (R112). -/
def Obligations.StepKeepsRamp : Prop :=
  ∀ s t : State, RampOk s → step s = .next t → RampOk t

/-- Every step keeps every port within its bounds: one state notice about each carrier (R171), eight replies (R168), two
requests (R165), a DISABLED port clear (R175). -/
def Obligations.StepKeepsPorts : Prop :=
  ∀ s t : State, PortsOk s → step s = .next t → PortsOk t

/-- Every step keeps carriers and rails in agreement (R89, R108): what is ACTIVE, OFFERED or DRAINING stands on a rail in ON,
what waits in WAKING on a rail on its way there, a rail that is ON or waits to ramp has a carrier that needs it, and no rail
is ON or in HOLD with its power-good known to be low (R121). -/
def Obligations.StepKeepsPower : Prop :=
  ∀ s t : State, CarriersOk s → RampOk s → PowerOk s → step s = .next t → PowerOk t

/-- Every step keeps the offer queues exactly the ripe carriers (R53, R54, R55): whatever an event changes, a carrier that
has become ripe has joined its owner's queue or been offered, and one no longer ripe has left it. -/
def Obligations.StepKeepsRipeness : Prop :=
  ∀ s t : State, CarriersOk s → AnchorsOk s → RipeOk s → step s = .next t → RipeOk t
end

