-- ==== Sys2Proof/Laws/State.lean ====
section
/-! SUPPORT. What each update of the state leaves alone and what it writes: one lemma for each field and update, true by
unfolding the update once, so that no later proof unfolds a record update. -/

namespace Sys2Proof.Machine

/-! ### modCarrier -/

@[simp] theorem modCarrier_clock (s : State) (n : Site) (f : Carrier → Carrier) :
    (s.modCarrier n f).clock = s.clock := rfl

@[simp] theorem modCarrier_inputs (s : State) (n : Site) (f : Carrier → Carrier) :
    (s.modCarrier n f).inputs = s.inputs := rfl

@[simp] theorem modCarrier_banks (s : State) (n : Site) (f : Carrier → Carrier) :
    (s.modCarrier n f).banks = s.banks := rfl

@[simp] theorem modCarrier_stack (s : State) (n : Site) (f : Carrier → Carrier) :
    (s.modCarrier n f).stack = s.stack := rfl

@[simp] theorem modCarrier_rails (s : State) (n : Site) (f : Carrier → Carrier) :
    (s.modCarrier n f).rails = s.rails := rfl

@[simp] theorem modCarrier_ramp (s : State) (n : Site) (f : Carrier → Carrier) :
    (s.modCarrier n f).ramp = s.ramp := rfl

@[simp] theorem modCarrier_ports (s : State) (n : Site) (f : Carrier → Carrier) :
    (s.modCarrier n f).ports = s.ports := rfl

@[simp] theorem modCarrier_alerts (s : State) (n : Site) (f : Carrier → Carrier) :
    (s.modCarrier n f).alerts = s.alerts := rfl

@[simp] theorem modCarrier_mgmt (s : State) (n : Site) (f : Carrier → Carrier) :
    (s.modCarrier n f).mgmt = s.mgmt := rfl

@[simp] theorem modCarrier_envReads (s : State) (n : Site) (f : Carrier → Carrier) :
    (s.modCarrier n f).envReads = s.envReads := rfl

@[simp] theorem modCarrier_pending (s : State) (n : Site) (f : Carrier → Carrier) :
    (s.modCarrier n f).pending = s.pending := rfl

/-! ### modRail -/

@[simp] theorem modRail_clock (s : State) (r : RailId) (f : Rail → Rail) :
    (s.modRail r f).clock = s.clock := rfl

@[simp] theorem modRail_inputs (s : State) (r : RailId) (f : Rail → Rail) :
    (s.modRail r f).inputs = s.inputs := rfl

@[simp] theorem modRail_banks (s : State) (r : RailId) (f : Rail → Rail) :
    (s.modRail r f).banks = s.banks := rfl

@[simp] theorem modRail_carriers (s : State) (r : RailId) (f : Rail → Rail) :
    (s.modRail r f).carriers = s.carriers := rfl

@[simp] theorem modRail_stack (s : State) (r : RailId) (f : Rail → Rail) :
    (s.modRail r f).stack = s.stack := rfl

@[simp] theorem modRail_ramp (s : State) (r : RailId) (f : Rail → Rail) :
    (s.modRail r f).ramp = s.ramp := rfl

@[simp] theorem modRail_ports (s : State) (r : RailId) (f : Rail → Rail) :
    (s.modRail r f).ports = s.ports := rfl

@[simp] theorem modRail_alerts (s : State) (r : RailId) (f : Rail → Rail) :
    (s.modRail r f).alerts = s.alerts := rfl

@[simp] theorem modRail_mgmt (s : State) (r : RailId) (f : Rail → Rail) :
    (s.modRail r f).mgmt = s.mgmt := rfl

@[simp] theorem modRail_envReads (s : State) (r : RailId) (f : Rail → Rail) :
    (s.modRail r f).envReads = s.envReads := rfl

@[simp] theorem modRail_pending (s : State) (r : RailId) (f : Rail → Rail) :
    (s.modRail r f).pending = s.pending := rfl

/-! ### modPort -/

@[simp] theorem modPort_clock (s : State) (t : Tenant) (f : Port → Port) :
    (s.modPort t f).clock = s.clock := rfl

@[simp] theorem modPort_inputs (s : State) (t : Tenant) (f : Port → Port) :
    (s.modPort t f).inputs = s.inputs := rfl

@[simp] theorem modPort_banks (s : State) (t : Tenant) (f : Port → Port) :
    (s.modPort t f).banks = s.banks := rfl

@[simp] theorem modPort_carriers (s : State) (t : Tenant) (f : Port → Port) :
    (s.modPort t f).carriers = s.carriers := rfl

@[simp] theorem modPort_stack (s : State) (t : Tenant) (f : Port → Port) :
    (s.modPort t f).stack = s.stack := rfl

@[simp] theorem modPort_rails (s : State) (t : Tenant) (f : Port → Port) :
    (s.modPort t f).rails = s.rails := rfl

@[simp] theorem modPort_ramp (s : State) (t : Tenant) (f : Port → Port) :
    (s.modPort t f).ramp = s.ramp := rfl

@[simp] theorem modPort_alerts (s : State) (t : Tenant) (f : Port → Port) :
    (s.modPort t f).alerts = s.alerts := rfl

@[simp] theorem modPort_mgmt (s : State) (t : Tenant) (f : Port → Port) :
    (s.modPort t f).mgmt = s.mgmt := rfl

@[simp] theorem modPort_envReads (s : State) (t : Tenant) (f : Port → Port) :
    (s.modPort t f).envReads = s.envReads := rfl

@[simp] theorem modPort_pending (s : State) (t : Tenant) (f : Port → Port) :
    (s.modPort t f).pending = s.pending := rfl

/-! ### Reads of one part after an update of another -/

@[simp] theorem carrier_modRail (s : State) (r : RailId) (f : Rail → Rail) (n : Site) :
    (s.modRail r f).carrier n = s.carrier n := rfl

@[simp] theorem carrier_modPort (s : State) (t : Tenant) (f : Port → Port) (n : Site) :
    (s.modPort t f).carrier n = s.carrier n := rfl

@[simp] theorem rail_modCarrier (s : State) (n : Site) (f : Carrier → Carrier) (r : RailId) :
    (s.modCarrier n f).rail r = s.rail r := rfl

@[simp] theorem rail_modPort (s : State) (t : Tenant) (f : Port → Port) (r : RailId) :
    (s.modPort t f).rail r = s.rail r := rfl

@[simp] theorem port_modCarrier (s : State) (n : Site) (f : Carrier → Carrier) (t : Tenant) :
    (s.modCarrier n f).port t = s.port t := rfl

@[simp] theorem port_modRail (s : State) (r : RailId) (f : Rail → Rail) (t : Tenant) :
    (s.modRail r f).port t = s.port t := rfl

/-! ### A read of the part that was updated -/

@[simp] theorem carrier_modCarrier_same (s : State) (n : Site) (f : Carrier → Carrier) :
    (s.modCarrier n f).carrier n = f (s.carrier n) := by
  simp [State.modCarrier, State.carrier]

theorem carrier_modCarrier_ne (s : State) {m n : Site} (f : Carrier → Carrier) (h : m ≠ n) :
    (s.modCarrier n f).carrier m = s.carrier m := by
  have : n.val ≠ m.val := fun e => h (Fin.ext e.symm)
  simp [State.modCarrier, State.carrier, Vector.getElem_set_ne _ _ this]

theorem carrier_modCarrier (s : State) (m n : Site) (f : Carrier → Carrier) :
    (s.modCarrier n f).carrier m = if m = n then f (s.carrier m) else s.carrier m := by
  split
  · rename_i h; subst h; simp
  · rename_i h; exact carrier_modCarrier_ne s f h

@[simp] theorem rail_modRail_same (s : State) (r : RailId) (f : Rail → Rail) :
    (s.modRail r f).rail r = f (s.rail r) := by
  simp [State.modRail, State.rail]

theorem rail_modRail_ne (s : State) {q r : RailId} (f : Rail → Rail) (h : q ≠ r) :
    (s.modRail r f).rail q = s.rail q := by
  have : r.val ≠ q.val := fun e => h (Fin.ext e.symm)
  simp [State.modRail, State.rail, Vector.getElem_set_ne _ _ this]

theorem rail_modRail (s : State) (q r : RailId) (f : Rail → Rail) :
    (s.modRail r f).rail q = if q = r then f (s.rail q) else s.rail q := by
  split
  · rename_i h; subst h; simp
  · rename_i h; exact rail_modRail_ne s f h

@[simp] theorem port_modPort_same (s : State) (t : Tenant) (f : Port → Port) :
    (s.modPort t f).port t = f (s.port t) := by
  cases t <;> rfl

theorem port_modPort_ne (s : State) {u t : Tenant} (f : Port → Port) (h : u ≠ t) :
    (s.modPort t f).port u = s.port u := by
  cases t <;> cases u <;> first | rfl | exact absurd rfl h

theorem port_modPort (s : State) (u t : Tenant) (f : Port → Port) :
    (s.modPort t f).port u = if u = t then f (s.port u) else s.port u := by
  split
  · rename_i h; subst h; simp
  · rename_i h; exact port_modPort_ne s f h

/-! ### Two updates of one part -/

theorem modCarrier_modCarrier (s : State) (n : Site) (f g : Carrier → Carrier) :
    (s.modCarrier n f).modCarrier n g = s.modCarrier n (fun c => g (f c)) := by
  simp [State.modCarrier]

theorem modRail_modRail (s : State) (r : RailId) (f g : Rail → Rail) :
    (s.modRail r f).modRail r g = s.modRail r (fun x => g (f x)) := by
  simp [State.modRail]

theorem modPort_modPort (s : State) (t : Tenant) (f g : Port → Port) :
    (s.modPort t f).modPort t g = s.modPort t (fun p => g (f p)) := by
  cases t <;> rfl

/-! ### Equal states -/

theorem carriers_ext {s t : State} (h : ∀ n, t.carrier n = s.carrier n) : t.carriers = s.carriers :=
  Vector.ext fun i hi => h ⟨i, hi⟩

theorem rails_ext {s t : State} (h : ∀ r, t.rail r = s.rail r) : t.rails = s.rails :=
  Vector.ext fun i hi => h ⟨i, hi⟩

theorem ports_ext {s t : State} (h : ∀ u, t.port u = s.port u) : t.ports = s.ports := by
  have ha := h .a
  have hb := h .b
  have hc := h .c
  simp only [State.port, Ports.get] at ha hb hc
  rcases hs : s.ports with ⟨a, b, c⟩
  rcases ht : t.ports with ⟨a', b', c'⟩
  simp_all

/-! ### Loops -/

theorem mem_allSites (n : Site) : n ∈ allSites := by
  revert n; decide

theorem mem_allRails (r : RailId) : r ∈ allRails := by
  revert r; decide

/-- A property that every turn of a loop over a list keeps. -/
theorem forList_induction {α : Type} (P : State → Prop) (f : α → State → State)
    (hf : ∀ x s, P s → P (f x s)) : ∀ (l : List α) (s : State), P s → P (forList l f s)
  | [], _, h => h
  | x :: l, s, h => forList_induction P f hf l (f x s) (hf x s h)

theorem forSites_eq (f : Site → State → State) (s : State) : forSites f s = forList allSites f s := rfl

theorem forRails_eq (f : RailId → State → State) (s : State) : forRails f s = forList allRails f s := rfl

theorem forSites_induction (P : State → Prop) (f : Site → State → State)
    (hf : ∀ n s, P s → P (f n s)) (s : State) (h : P s) : P (forSites f s) :=
  forList_induction P f hf allSites s h

theorem forRails_induction (P : State → Prop) (f : RailId → State → State)
    (hf : ∀ r s, P s → P (f r s)) (s : State) (h : P s) : P (forRails f s) :=
  forList_induction P f hf allRails s h

/-- A loop over all sites makes Q n at the turn of n, and every other turn keeps it. -/
theorem forSites_reaches (Q : Site → State → Prop) (f : Site → State → State)
    (hmake : ∀ n s, Q n (f n s)) (hkeep : ∀ m n s, Q m s → Q m (f n s)) (s : State) (m : Site) :
    Q m (forSites f s) := by
  have key : ∀ (l : List Site) (s : State), m ∈ l → Q m (forList l f s) := by
    intro l
    induction l with
    | nil => intro s h; cases h
    | cons x l ih =>
      intro s h
      rcases List.mem_cons.mp h with rfl | h
      · exact forList_induction (Q m) f (fun n s hq => hkeep m n s hq) l _ (hmake m s)
      · exact ih (f x s) h
  exact key allSites s (mem_allSites m)

end Sys2Proof.Machine
end

