-- ==== Sys2Proof/Laws/Moves.lean ====
section
/-! SUPPORT. What the shared operations can do, said once: each of them is a run of elementary moves, and a move's guard is
what holds when the operation makes it. A property that every move keeps is kept by every shared operation. -/

namespace Sys2Proof.Machine

/-- The elementary moves of the scheduler and the exchange on carriers and on what the tenants hold: no rail, no ramp
queue, no stack, no alert. -/
inductive Ease (s : State) : State → Prop where
  /-- A state notice is posted. -/
  | notice (t : Tenant) (x : Notice) (h : x.about.isSome) : Ease s (post t x s)
  /-- A carrier leaves its owner's offer queue, if it is there. -/
  | leaves (n : Site) : Ease s (unqueue n s)
  /-- A ripe carrier that is not queued joins its owner's offer queue. -/
  | joins (n : Site) (hr : ripe s n) (hq : n ∉ (s.port (s.carrier n).owner).offerQueue) : Ease s (joinQueue n s)
  /-- The head of an offer queue is offered while a drain slot is free. -/
  | offers (t : Tenant) (n : Site) (rest : List Site) (hq : (s.port t).offerQueue = n :: rest)
      (hs : outstanding s t < (s.port t).drainSlots) :
      Ease s (issueOffer n (s.modPort t fun p => { p with offerQueue := rest }))
  /-- A carrier enters ACTIVE from an exchange or from WAKING. -/
  | activates (n : Site) (h : (s.carrier n).power.inExchange ∨ (s.carrier n).power = .waking) : Ease s (enterActive n s)
  /-- The surge holdoff of an ACTIVE anchor without draining dependents starts. -/
  | settles (x : Site) (hd : drainingDependents s x = 0) (ha : (s.carrier x).power = .active) :
      Ease s (s.modCarrier x fun c => { c with holdoff := some s.now })

/-- A run of elementary moves. -/
abbrev Eases : State → State → Prop := Relation.ReflTransGen Ease

/-- Every elementary move of a cascade. -/
inductive Move (s : State) : State → Prop where
  | ease {t : State} (h : Ease s t) : Move s t
  /-- A sleeper leaves the stack for WAKING. -/
  | wakes (n : Site) (h : (s.carrier n).power = .asleep) :
      Move s (State.modCarrier { s with stack := s.stack.filter (· != n) } n
        fun c => { c with power := .waking, cause := none })
  /-- An OFF rail joins the ramp queue, and the grant follows if the slot is free. -/
  | queues (r : RailId) (cls : RampClass) (h : (s.rail r).state = .off) : Move s (queueRail r cls s)
  /-- A rail in the ordinary part is raised to the urgent part. -/
  | raises (r : RailId) (h : r ∈ s.ramp.ordinary) : Move s (joinRamp r .urgent (leaveRamp r s))
  /-- A need returns a rail in HOLD to ON. -/
  | returns (r : RailId) (h : (s.rail r).state = .hold) :
      Move s (s.modRail r fun x => { x with state := .on, graceTimer := none, held := false })
  /-- A carrier that met its rail in FAULT is FAULTED. -/
  | meetsFault (n : Site) (h : (s.carrier n).power = .waking) (hr : (s.rail (s.carrier n).rail).state = .fault) :
      Move s (s.modCarrier n fun c => { c with power := .faulted, cause := some .rail })
  /-- An ON rail without a need enters HOLD. -/
  | holds (r : RailId) (h : (s.rail r).state = .on) (hn : needCount s r = 0) :
      Move s (s.modRail r fun x => { x with state := .hold, graceTimer := some s.now, held := false })
  /-- A grace timer stops. -/
  | graceStops (r : RailId) : Move s (s.modRail r fun x => { x with graceTimer := none })
  /-- A rail in HOLD is switched off. -/
  | darkens (r : RailId) (h : (s.rail r).state = .hold) :
      Move s (s.modRail r fun x => { x with state := .off, graceTimer := none, held := false })
  /-- A rail in HOLD is held. -/
  | isHeld (r : RailId) (h : (s.rail r).state = .hold) : Move s (s.modRail r fun x => { x with held := true })
  /-- A QUEUED rail without a need leaves the queue for OFF. -/
  | gives (r : RailId) (h : (s.rail r).state = .queued) (hn : needCount s r = 0) :
      Move s (leaveRamp r (s.modRail r fun x => { x with state := .off }))
  /-- A carrier in service is FAULTED, before the ends of its drain and its exchange. -/
  | faults (n : Site) (cause : FaultCause) (h : (s.carrier n).power.inService) :
      Move s { (unqueue n s).modCarrier n (fun c =>
        { c with
          power := .faulted
          cause := some cause
          staleTimer := none
          dwell := .absent
          answerTimer := none
          drainTimer := none
          holdoff := none }) with stack := s.stack.filter (· != n) }
  /-- A tenant's offer queue is emptied. -/
  | empties (t : Tenant) : Move s (emptyQueue t s)
  /-- An ACTIVE carrier goes stale. -/
  | stales (n : Site) (h : (s.carrier n).power = .active) :
      Move s (s.modCarrier n fun c => { c with staleTimer := none, stale := true, dwell := .absent })
  /-- A stale timer stops. -/
  | staleStops (n : Site) : Move s (s.modCarrier n fun c => { c with staleTimer := none })
  /-- A running dwell elapses. -/
  | dwells (n : Site) (st : Time) (h : (s.carrier n).dwell = .running st) :
      Move s (s.modCarrier n fun c => { c with dwell := .elapsed st })
  /-- A running min-awake passes. -/
  | awakes (n : Site) (e x : Time) (h : (s.carrier n).minAwake = .running e) :
      Move s (s.modCarrier n fun c => { c with minAwake := .passed x })
  /-- An answer timer stops on a carrier that is not OFFERED. -/
  | answerStops (n : Site) (h : (s.carrier n).power ≠ .offered) :
      Move s (s.modCarrier n fun c => { c with answerTimer := none })
  /-- A drain timer stops on a carrier that is not DRAINING. -/
  | drainStops (n : Site) (h : (s.carrier n).power ≠ .draining) :
      Move s (s.modCarrier n fun c => { c with drainTimer := none })
  /-- A surge holdoff ends. -/
  | holdoffEnds (n : Site) : Move s (s.modCarrier n fun c => { c with holdoff := none })

/-- A run of elementary moves of a cascade. -/
abbrev Moves : State → State → Prop := Relation.ReflTransGen Move

theorem Ease.run {s t : State} (h : Ease s t) : Eases s t := .single h

theorem Move.run {s t : State} (h : Move s t) : Moves s t := .single h

theorem Eases.moves {s t : State} (h : Eases s t) : Moves s t :=
  Relation.ReflTransGen.mono (p := Move) (fun _ _ hh => Move.ease hh) _ _ h

/-- A property that every elementary move keeps is kept by a run of them. -/
theorem Eases.keeps {P : State → Prop} (hP : ∀ s t, Ease s t → P s → P t) {s t : State} (h : Eases s t) (hs : P s) :
    P t := by
  induction h with
  | refl => exact hs
  | tail _ h ih => exact hP _ _ h ih

theorem Moves.keeps {P : State → Prop} (hP : ∀ s t, Move s t → P s → P t) {s t : State} (h : Moves s t) (hs : P s) :
    P t := by
  induction h with
  | refl => exact hs
  | tail _ h ih => exact hP _ _ h ih

theorem forList_eases {α : Type} (f : α → State → State) (hf : ∀ x s, Eases s (f x s)) (l : List α) (s : State) :
    Eases s (forList l f s) :=
  forList_induction (fun u => Eases s u) f (fun x u h => h.trans (hf x u)) l s .refl

theorem forList_moves {α : Type} (f : α → State → State) (hf : ∀ x s, Moves s (f x s)) (l : List α) (s : State) :
    Moves s (forList l f s) :=
  forList_induction (fun u => Moves s u) f (fun x u h => h.trans (hf x u)) l s .refl

/-! ### Scheduler and exchange -/

theorem dispatchUpTo_eases : ∀ (k : Nat) (t : Tenant) (s : State), Eases s (dispatchUpTo k t s)
  | 0, _, _ => .refl
  | k + 1, t, s => by
    rw [dispatchUpTo]
    split
    · exact .refl
    · rename_i n rest hq
      split
      · rename_i hs
        exact .head (.offers t n rest hq hs) (dispatchUpTo_eases k t _)
      · exact .refl

theorem dispatch_eases (t : Tenant) (s : State) : Eases s (dispatch t s) := dispatchUpTo_eases _ t s

theorem reeval_eases (n : Site) (s : State) : Eases s (reeval n s) := by
  rw [reeval]
  split
  · rename_i hr
    split
    · exact .refl
    · rename_i hq
      exact .head (.joins n hr (by simpa using hq)) (dispatch_eases _ _)
  · exact (Ease.leaves n).run

theorem reevalDependents_eases (x : Site) (s : State) : Eases s (reevalDependents x s) := by
  refine forList_eases _ (fun n u => ?_) _ s
  split
  · exact reeval_eases n u
  · exact .refl

theorem endOfDrain_eases (anchors : List Site) (s : State) : Eases s (endOfDrain anchors s) := by
  refine forList_eases _ (fun x u => ?_) _ s
  split
  · rename_i h
    simp only [Bool.and_eq_true, decide_eq_true_eq, beq_iff_eq] at h
    exact (Ease.settles x h.1 h.2).run
  · exact .refl

theorem leftDraining_eases (was : Power) (anchors : List Site) (s : State) : Eases s (leftDraining was anchors s) := by
  rw [leftDraining]
  split
  · exact endOfDrain_eases anchors s
  · exact .refl

theorem leftExchange_eases (was : Power) (t : Tenant) (s : State) : Eases s (leftExchange was t s) := by
  rw [leftExchange]
  split
  · exact dispatch_eases t s
  · exact .refl

theorem powered_eases (n : Site) (s : State) (h : (s.carrier n).power = .waking) : Eases s (powered n s) := by
  have h1 : Eases s (enterActive n s) := (Ease.activates n (.inr h)).run
  have h2 : Eases (enterActive n s) _ :=
    (Ease.notice ((enterActive n s).carrier n).owner (.powered n (noticeNumber (enterActive n s) n)) rfl).run
  rw [powered]
  split
  · exact (h1.trans h2).trans (reevalDependents_eases n _)
  · exact h1.trans h2

theorem returnToActive_eases (n : Site) (s : State) (h : (s.carrier n).power.inExchange) :
    Eases s (returnToActive n s) :=
  (Ease.activates n (.inl h)).run.trans (leftDraining_eases _ _ _)

theorem withdraw_eases (n : Site) (why : Reason) (s : State) : Eases s (withdraw n why s) := by
  rw [withdraw]
  split
  · rename_i h
    exact ((returnToActive_eases n s h).trans (Ease.notice _ _ rfl).run).trans (dispatch_eases _ _)
  · exact .refl

/-! ### Rails -/

/-- The grant gives the free slot to the head of the ramp queue, and otherwise changes nothing. -/
theorem grant_cases (s : State) :
    (∃ r rest, s.ramp.slot = none ∧ s.ramp.queue = r :: rest ∧ grant s = grantTo r s) ∨
      (grant s = s ∧ (s.ramp.slot = none → s.ramp.queue = [])) := by
  rw [grant]
  split
  · rename_i r h; exact .inr ⟨rfl, by simp [h]⟩
  · rename_i hs
    split
    · rename_i hq; exact .inr ⟨rfl, fun _ => hq⟩
    · rename_i r rest hq; exact .inl ⟨r, rest, hs, hq, rfl⟩

theorem queueRail_moves (r : RailId) (cls : RampClass) (s : State) (h : (s.rail r).state = .off) :
    Moves s (queueRail r cls s) :=
  (Move.queues r cls h).run

theorem raiseRail_moves (r : RailId) (cls : RampClass) (s : State) : Moves s (raiseRail r cls s) := by
  cases cls with
  | ordinary => exact .refl
  | urgent =>
    rw [raiseRail]
    split
    · rename_i h
      exact (Move.raises r (by simpa using h)).run
    · exact .refl

theorem graceTest_moves (r : RailId) (s : State) (h : (s.rail r).state = .hold) : Moves s (graceTest r s) := by
  have h1 : Moves s _ := (Move.graceStops (s := s) r).run
  have h2 : ((s.modRail r fun x => { x with graceTimer := none }).rail r).state = .hold := by simp [h]
  rw [graceTest]
  split
  · exact h1.trans (Move.darkens r h2).run
  · split
    · exact h1.trans (Move.darkens r h2).run
    · exact h1.trans (Move.isHeld r h2).run

theorem enterHold_moves (r : RailId) (s : State) (h : (s.rail r).state = .on) (hn : needCount s r = 0) :
    Moves s (enterHold r s) := by
  have h1 : Moves s _ := (Move.holds r h hn).run
  rw [enterHold]
  split
  · exact h1.trans (graceTest_moves r _ (by simp))
  · exact h1

theorem needFalls_moves (r : RailId) (s : State) : Moves s (needFalls r s) := by
  rw [needFalls]
  split
  · rename_i hn
    split
    · rename_i h; exact enterHold_moves r s h hn
    · rename_i h; exact (Move.gives r h hn).run
    all_goals exact .refl
  · exact .refl

theorem sleeperLeaves_moves (r : RailId) (s : State) : Moves s (sleeperLeaves r s) := by
  rw [sleeperLeaves]
  split
  · rename_i h
    simp only [Bool.and_eq_true, beq_iff_eq] at h
    exact (Move.darkens r h.1.1).run
  · exact .refl

theorem railLoses_moves (was : Power) (r : RailId) (s : State) : Moves s (railLoses was r s) := by
  rw [railLoses]
  split
  · exact needFalls_moves r s
  · split
    · exact sleeperLeaves_moves r s
    · exact .refl

/-! ### Wakes -/

/-- What the rail makes of a carrier that has just entered WAKING. -/
theorem enterWaking_moves (n : Site) (cls : RampClass) (s : State) :
    Moves (s.modCarrier n fun c => { c with power := .waking, cause := none }) (enterWaking n cls s) := by
  rw [enterWaking]
  split
  · exact (powered_eases n _ (by simp)).moves
  · rename_i h
    exact (Move.returns (s := s.modCarrier n fun c => { c with power := .waking, cause := none }) _ h).run.trans
      (powered_eases n _ (by simp)).moves
  · rename_i h; exact queueRail_moves _ cls _ h
  · exact raiseRail_moves _ cls _
  · exact .refl
  · exact .refl
  · rename_i h
    rw [faultedOnRail]
    exact (Move.meetsFault n (by simp) (by simpa using h)).run.trans (Eases.moves (Ease.notice _ _ rfl).run)

theorem wakeCarrier_moves (n : Site) (cls : RampClass) (s : State) : Moves s (wakeCarrier n cls s) := by
  rw [wakeCarrier]
  split
  · rename_i h
    exact (Move.wakes n (by simpa using h)).run.trans (enterWaking_moves n cls _)
  · exact .refl

theorem bulkWake_moves (chosen : State → Site → Bool) (cls : RampClass) (s : State) :
    Moves s (bulkWake chosen cls s) := by
  refine forList_moves _ (fun n u => ?_) _ s
  split
  · exact wakeCarrier_moves n cls u
  · exact .refl

theorem restoration_moves (x : Site) (s : State) : Moves s (restoration x s) := by
  refine Relation.ReflTransGen.trans (Eases.moves (forList_eases _ (fun n u => ?_) _ s)) (bulkWake_moves _ _ _)
  split
  · exact withdraw_eases n .coverage u
  · exact .refl

theorem anchorLeaves_moves (x : Site) (was : Carrier) (s : State) : Moves s (anchorLeaves x was s) := by
  rw [anchorLeaves]
  split
  · exact (reevalDependents_eases x s).moves.trans (restoration_moves x _)
  · exact .refl

/-! ### Pins and faults -/

/-- What follows the record's own change when a pin source that it lacks is added. -/
theorem addPin_moves (src : PinSource) (n : Site) (s : State) (h : (s.carrier n).pins.has src = false) :
    Moves (s.modCarrier n fun c => { c with pins := c.pins.put src true }) (addPin src n s) := by
  rw [addPin, if_neg (by simp [h])]
  dsimp only
  split
  · exact Eases.moves (Ease.leaves n).run
  · exact (withdraw_eases n .pin _).moves
  · exact (withdraw_eases n .pin _).moves
  · exact wakeCarrier_moves n .ordinary _
  all_goals exact .refl

theorem addPin_present (src : PinSource) (n : Site) (s : State) (h : (s.carrier n).pins.has src = true) :
    addPin src n s = s := by
  rw [addPin, if_pos h]

/-- What follows the record's own change when a pin source that it has is removed. -/
theorem removePin_eases (src : PinSource) (n : Site) (s : State) (h : (s.carrier n).pins.has src = true) :
    Eases (s.modCarrier n fun c => { c with pins := c.pins.put src false }) (removePin src n s) := by
  rw [removePin, if_pos h]
  dsimp only
  split
  · exact reeval_eases n _
  · exact .refl

theorem removePin_absent (src : PinSource) (n : Site) (s : State) (h : (s.carrier n).pins.has src = false) :
    removePin src n s = s := by
  rw [removePin, if_neg (by simp [h])]

theorem takeToFaulted_moves (n : Site) (cause : FaultCause) (s : State) (h : (s.carrier n).power.inService) :
    Moves s (takeToFaulted n cause s) :=
  ((Move.faults n cause h).run.trans (leftDraining_eases _ _ _).moves).trans (leftExchange_eases _ _ _).moves

theorem sweepCarrier_moves (n : Site) (s : State) : Moves s (sweepCarrier n s) := by
  rw [sweepCarrier]
  split
  · rename_i h
    exact ((takeToFaulted_moves n .rail s h).trans (Eases.moves (Ease.notice _ _ rfl).run)).trans
      (anchorLeaves_moves n _ _)
  · exact .refl

theorem sweepRail_moves (r : RailId) (s : State) : Moves s (sweepRail r s) := by
  refine forList_moves _ (fun n u => ?_) _ s
  split
  · exact sweepCarrier_moves n u
  · exact .refl

/-- All that follows the rail's own entry to FAULT. -/
theorem enterFault_moves (r : RailId) (s : State) :
    Moves (addAlert (railFaultCode r) (s.modRail r fun x =>
      { x with state := .fault, graceTimer := none, settleTimer := none, held := false })) (enterFault r s) :=
  sweepRail_moves r _

/-! ### Night -/

theorem nightStart_moves (s : State) : Moves s (nightStart s) := by
  refine Eases.moves (forList_eases _ (fun n u => ?_) _ s)
  split
  · exact reeval_eases n u
  · exact .refl

theorem nightEnd_moves (cause : NightEnd) (s : State) : Moves s (nightEnd cause s) := by
  have h : Moves s (emptyQueue .c (emptyQueue .b (emptyQueue .a s))) :=
    ((Move.empties .a).run.trans (Move.empties .b).run).trans (Move.empties .c).run
  exact (h.trans (Eases.moves (forList_eases _ (fun n u => withdraw_eases n _ u) _ _))).trans (bulkWake_moves _ _ _)

theorem renight_moves (before : Bool) (cause : NightEnd) (s : State) : Moves s (renight before cause s) := by
  rw [renight]
  split
  · exact nightEnd_moves cause s
  · split
    · exact nightStart_moves s
    · exact .refl

/-! ### Expiries -/

/-- A withdrawal reads nothing of a timer or a stale flag: a change that its entry to ACTIVE overwrites has no effect. -/
theorem withdraw_after (n : Site) (why : Reason) (s : State) (f : Carrier → Carrier)
    (hp : ∀ c, (f c).power = c.power) (ha : ∀ c, (f c).anchors = c.anchors) (ho : ∀ c, (f c).owner = c.owner)
    (hk : ∀ c, (f c).token = c.token) (hE : enterActive n (s.modCarrier n f) = enterActive n s)
    (hx : (s.carrier n).power.inExchange) :
    withdraw n why (s.modCarrier n f) = withdraw n why s := by
  simp only [withdraw, returnToActive, carrier_modCarrier_same, hp, ha, ho, hk, hE, hx, if_true]

theorem answerExpires_offered (n : Site) (s : State) (h : (s.carrier n).power = .offered) :
    answerExpires n s = withdraw n .timeout s := by
  rw [answerExpires, if_pos (by simp [h])]
  refine withdraw_after n .timeout s _ (fun _ => rfl) (fun _ => rfl) (fun _ => rfl) (fun _ => rfl) ?_
    (by simp [h, Power.inExchange])
  simp only [enterActive, modCarrier_modCarrier]
  rfl

theorem drainExpires_draining (n : Site) (s : State) (h : (s.carrier n).power = .draining) :
    drainExpires n s = withdraw n .timeout s := by
  rw [drainExpires, if_pos (by simp [h])]
  refine withdraw_after n .timeout s _ (fun _ => rfl) (fun _ => rfl) (fun _ => rfl) (fun _ => rfl) ?_
    (by simp [h, Power.inExchange])
  simp only [enterActive, modCarrier_modCarrier]
  rfl

theorem staleExpires_offered (n : Site) (s : State) (h : (s.carrier n).power = .offered) :
    staleExpires n s = withdraw n .stale s := by
  rw [staleExpires]
  simp only [h, modCarrier_modCarrier]
  refine withdraw_after n .stale s _ (fun _ => rfl) (fun _ => rfl) (fun _ => rfl) (fun _ => rfl) ?_
    (by simp [h, Power.inExchange])
  simp only [enterActive, modCarrier_modCarrier]
  rfl

theorem staleExpires_moves (n : Site) (s : State) : Moves s (staleExpires n s) := by
  have stop : Moves s _ := (Move.staleStops (s := s) n).run
  by_cases ho : (s.carrier n).power = .offered
  · rw [staleExpires_offered n s ho]; exact (withdraw_eases n .stale s).moves
  · rw [staleExpires]
    dsimp only
    split
    · rename_i h
      have h1 : Moves s _ := (Move.stales n h).run
      simp only [modCarrier_modCarrier]
      split
      · exact (h1.trans (reeval_eases n _).moves).trans (reevalDependents_eases n _).moves
      · exact h1.trans (reeval_eases n _).moves
    · rename_i h; exact absurd h ho
    all_goals exact stop

theorem dwellEnds_moves (n : Site) (s : State) : Moves s (dwellEnds n s) := by
  rw [dwellEnds]
  split
  · rename_i st h; exact (Move.dwells n st h).run
  all_goals exact .refl

theorem minAwakeEnds_moves (n : Site) (s : State) : Moves s (minAwakeEnds n s) := by
  rw [minAwakeEnds]
  split
  · rename_i e h; exact (Move.awakes n e _ h).run
  all_goals exact .refl

theorem answerExpires_moves (n : Site) (s : State) : Moves s (answerExpires n s) := by
  by_cases h : (s.carrier n).power = .offered
  · rw [answerExpires_offered n s h]; exact (withdraw_eases n .timeout s).moves
  · rw [answerExpires, if_neg (by simp [h])]
    exact (Move.answerStops n h).run

theorem drainExpires_moves (n : Site) (s : State) : Moves s (drainExpires n s) := by
  by_cases h : (s.carrier n).power = .draining
  · rw [drainExpires_draining n s h]; exact (withdraw_eases n .timeout s).moves
  · rw [drainExpires, if_neg (by simp [h])]
    exact (Move.drainStops n h).run

theorem holdoffEnds_moves (n : Site) (s : State) : Moves s (holdoffEnds n s) := (Move.holdoffEnds n).run

theorem graceExpires_moves (r : RailId) (s : State) : Moves s (graceExpires r s) := by
  rw [graceExpires]
  split
  · rename_i h; exact graceTest_moves r s (by simpa using h)
  · exact (Move.graceStops r).run

theorem schedulerEnds_moves (kinds : List Period) (n : Site) (s : State) : Moves s (schedulerEnds kinds n s) := by
  have h1 : ∀ (b : Bool) u, Moves u (if b then dwellEnds n u else u) := by
    intro b u; cases b
    · exact .refl
    · exact dwellEnds_moves n u
  have h2 : ∀ (b : Bool) u, Moves u (if b then minAwakeEnds n u else u) := by
    intro b u; cases b
    · exact .refl
    · exact minAwakeEnds_moves n u
  have h3 : ∀ (b : Bool) u, Moves u (if b then reeval n u else u) := by
    intro b u; cases b
    · exact .refl
    · exact (reeval_eases n u).moves
  exact ((h1 _ s).trans (h2 _ _)).trans (h3 _ _)

theorem exchangeEnds_moves (kinds : List Period) (n : Site) (s : State) : Moves s (exchangeEnds kinds n s) := by
  rw [exchangeEnds]
  split
  · exact answerExpires_moves n s
  · split
    · exact drainExpires_moves n s
    · exact .refl

theorem endPeriods_moves (kinds : List Period) (s : State) : Moves s (endPeriods kinds s) := by
  refine Relation.ReflTransGen.trans (Relation.ReflTransGen.trans (Relation.ReflTransGen.trans
    (Relation.ReflTransGen.trans (forList_moves _ (fun n u => ?_) _ s)
      (forList_moves _ (schedulerEnds_moves kinds) _ _))
      (forList_moves _ (exchangeEnds_moves kinds) _ _))
      (forList_moves _ (fun n u => ?_) _ _))
      (forList_moves _ (fun r u => ?_) _ _)
  · split
    · exact staleExpires_moves n u
    · exact .refl
  · split
    · exact holdoffEnds_moves n u
    · exact .refl
  · split
    · exact graceExpires_moves r u
    · exact .refl

theorem rebank_moves (before : Fin 2) (s : State) : Moves s (rebank before s) := by
  rw [rebank]
  split
  · exact .refl
  · exact endPeriods_moves _ s

end Sys2Proof.Machine
end

