-- ==== Sys2Proof/Laws/Frame.lean ====
section
/-! SUPPORT. What a cascade leaves alone: every shared operation gives a state that differs from the one before it as
`Cascade` says. -/

namespace Sys2Proof.Machine

theorem Cascade.refl (s : State) : Cascade s s :=
  ⟨rfl, rfl, rfl, rfl, rfl, rfl, rfl, fun _ => rfl, fun _ => rfl, fun _ => rfl⟩

theorem Cascade.trans {s t u : State} (h : Cascade s t) (k : Cascade t u) : Cascade s u where
  clock := k.clock.trans h.clock
  inputs := k.inputs.trans h.inputs
  banks := k.banks.trans h.banks
  alerts := k.alerts.trans h.alerts
  mgmt := k.mgmt.trans h.mgmt
  envReads := k.envReads.trans h.envReads
  pending := k.pending.trans h.pending
  carriers n := (k.carriers n).trans (h.carriers n)
  rails r := (k.rails r).trans (h.rails r)
  ports u := (k.ports u).trans (h.ports u)

/-- An update of a record that leaves what lasts. -/
theorem cascade_modCarrier (s : State) (n : Site) (f : Carrier → Carrier)
    (hf : ∀ c, (f c).lasting = c.lasting) : Cascade s (s.modCarrier n f) where
  clock := rfl
  inputs := rfl
  banks := rfl
  alerts := rfl
  mgmt := rfl
  envReads := rfl
  pending := rfl
  carriers m := by rw [carrier_modCarrier]; split <;> simp [hf]
  rails _ := rfl
  ports _ := rfl

/-- An update of a rail that leaves what lasts. -/
theorem cascade_modRail (s : State) (r : RailId) (f : Rail → Rail) (hf : ∀ x, (f x).lasting = x.lasting) :
    Cascade s (s.modRail r f) where
  clock := rfl
  inputs := rfl
  banks := rfl
  alerts := rfl
  mgmt := rfl
  envReads := rfl
  pending := rfl
  carriers _ := rfl
  rails q := by rw [rail_modRail]; split <;> simp [hf]
  ports _ := rfl

/-- An update of a port that leaves what lasts. -/
theorem cascade_modPort (s : State) (t : Tenant) (f : Port → Port) (hf : ∀ p, (f p).lasting = p.lasting) :
    Cascade s (s.modPort t f) where
  clock := rfl
  inputs := rfl
  banks := rfl
  alerts := rfl
  mgmt := rfl
  envReads := rfl
  pending := rfl
  carriers _ := rfl
  rails _ := rfl
  ports u := by rw [port_modPort]; split <;> simp [hf]

theorem cascade_stack (s : State) (l : List Site) : Cascade s { s with stack := l } :=
  ⟨rfl, rfl, rfl, rfl, rfl, rfl, rfl, fun _ => rfl, fun _ => rfl, fun _ => rfl⟩

theorem cascade_ramp (s : State) (q : Ramp) : Cascade s { s with ramp := q } :=
  ⟨rfl, rfl, rfl, rfl, rfl, rfl, rfl, fun _ => rfl, fun _ => rfl, fun _ => rfl⟩

theorem post_cascade (t : Tenant) (x : Notice) (s : State) : Cascade s (post t x s) :=
  cascade_modPort s t _ fun p => by split <;> rfl

theorem unqueue_cascade (n : Site) (s : State) : Cascade s (unqueue n s) :=
  (cascade_modPort s _ _ fun _ => by rfl).trans (cascade_modCarrier _ n _ fun _ => rfl)

theorem joinQueue_cascade (n : Site) (s : State) : Cascade s (joinQueue n s) :=
  (cascade_modPort s _ _ fun _ => by rfl).trans (cascade_modCarrier _ n _ fun _ => rfl)

theorem issueOffer_cascade (n : Site) (s : State) : Cascade s (issueOffer n s) :=
  (cascade_modCarrier s n _ fun _ => by rfl).trans (post_cascade _ _ _)

theorem enterActive_cascade (n : Site) (s : State) : Cascade s (enterActive n s) :=
  (cascade_modCarrier s n _ fun _ => by rfl).trans (unqueue_cascade n _)

theorem leaveRamp_cascade (r : RailId) (s : State) : Cascade s (leaveRamp r s) := cascade_ramp s _

theorem joinRamp_cascade (r : RailId) (cls : RampClass) (s : State) : Cascade s (joinRamp r cls s) := by
  cases cls <;> exact cascade_ramp s _

theorem grantTo_cascade (r : RailId) (s : State) : Cascade s (grantTo r s) :=
  ((leaveRamp_cascade r s).trans (cascade_modRail _ r _ fun _ => by rfl)).trans (cascade_ramp _ _)

theorem grant_cascade (s : State) : Cascade s (grant s) := by
  rcases grant_cases s with ⟨r, _, _, _, h⟩ | ⟨h, _⟩
  · rw [h]; exact grantTo_cascade r s
  · rw [h]; exact .refl s

theorem queueRail_cascade (r : RailId) (cls : RampClass) (s : State) : Cascade s (queueRail r cls s) :=
  ((cascade_modRail s r _ fun _ => by rfl).trans (joinRamp_cascade r cls _)).trans (grant_cascade _)

theorem emptyQueue_cascade (t : Tenant) (s : State) : Cascade s (emptyQueue t s) :=
  (forList_induction (fun u => Cascade s u) _
    (fun n _ h => h.trans (cascade_modCarrier _ n _ fun _ => by rfl)) _ s (.refl s)).trans
    (cascade_modPort _ t _ fun _ => by rfl)

theorem Ease.cascade {s t : State} (h : Ease s t) : Cascade s t := by
  cases h with
  | notice t x _ => exact post_cascade t x s
  | leaves n => exact unqueue_cascade n s
  | joins n _ _ => exact joinQueue_cascade n s
  | offers t n rest _ _ => exact (cascade_modPort s t _ fun _ => by rfl).trans (issueOffer_cascade n _)
  | activates n _ => exact enterActive_cascade n s
  | settles x _ _ => exact cascade_modCarrier s x _ fun _ => by rfl

theorem Move.cascade {s t : State} (h : Move s t) : Cascade s t := by
  cases h with
  | ease h => exact h.cascade
  | wakes n _ => exact (cascade_stack s _).trans (cascade_modCarrier _ n _ fun _ => by rfl)
  | queues r cls _ => exact queueRail_cascade r cls s
  | raises r _ => exact (leaveRamp_cascade r s).trans (joinRamp_cascade r .urgent _)
  | returns r _ => exact cascade_modRail s r _ fun _ => by rfl
  | meetsFault n _ _ => exact cascade_modCarrier s n _ fun _ => by rfl
  | holds r _ _ => exact cascade_modRail s r _ fun _ => by rfl
  | graceStops r => exact cascade_modRail s r _ fun _ => by rfl
  | darkens r _ => exact cascade_modRail s r _ fun _ => by rfl
  | isHeld r _ => exact cascade_modRail s r _ fun _ => by rfl
  | gives r _ _ => exact (cascade_modRail s r _ fun _ => by rfl).trans (leaveRamp_cascade r _)
  | faults n cause _ =>
    exact ((unqueue_cascade n s).trans (cascade_modCarrier _ n _ fun _ => by rfl)).trans (cascade_stack _ _)
  | empties t => exact emptyQueue_cascade t s
  | stales n _ => exact cascade_modCarrier s n _ fun _ => by rfl
  | staleStops n => exact cascade_modCarrier s n _ fun _ => by rfl
  | dwells n st _ => exact cascade_modCarrier s n _ fun _ => by rfl
  | awakes n e x _ => exact cascade_modCarrier s n _ fun _ => by rfl
  | answerStops n _ => exact cascade_modCarrier s n _ fun _ => by rfl
  | drainStops n _ => exact cascade_modCarrier s n _ fun _ => by rfl
  | holdoffEnds n => exact cascade_modCarrier s n _ fun _ => by rfl

theorem Moves.cascade {s t : State} (h : Moves s t) : Cascade s t := by
  induction h with
  | refl => exact .refl s
  | tail _ h ih => exact ih.trans h.cascade

/-! ### What the carriers' own moves leave alone besides -/

/-- The scheduler and the exchange move no rail, no ramp queue and no sleeper. -/
theorem Ease.rails {s t : State} (h : Ease s t) : t.rails = s.rails ∧ t.ramp = s.ramp ∧ t.stack = s.stack := by
  cases h <;> exact ⟨rfl, rfl, rfl⟩

theorem Eases.rails {s t : State} (h : Eases s t) : t.rails = s.rails ∧ t.ramp = s.ramp ∧ t.stack = s.stack := by
  induction h with
  | refl => exact ⟨rfl, rfl, rfl⟩
  | tail _ h ih =>
    exact ⟨h.rails.1.trans ih.1, h.rails.2.1.trans ih.2.1, h.rails.2.2.trans ih.2.2⟩

/-! ### What a cascade keeps of the conditions computed from the state -/

theorem Cascade.bank {s t : State} (h : Cascade s t) : Machine.bank t = Machine.bank s := by
  simp only [Machine.bank, selectedBank, h.banks, h.inputs]

theorem Cascade.selectedBank {s t : State} (h : Cascade s t) : Machine.selectedBank t = Machine.selectedBank s := by
  simp only [Machine.selectedBank, h.banks, h.inputs]

theorem Cascade.night {s t : State} (h : Cascade s t) : Machine.night t = Machine.night s := by
  simp only [Machine.night, siteHold, h.clock, h.inputs]

theorem Cascade.remaining {s t : State} (h : Cascade s t) : Machine.remaining t = Machine.remaining s := by
  simp only [Machine.remaining, h.clock]

theorem Cascade.link {s t : State} (h : Cascade s t) (u : Tenant) : (t.port u).link = (s.port u).link :=
  (congrArg Port.link (h.ports u) : (t.port u).lasting.link = (s.port u).lasting.link)

theorem Cascade.dependent {s t : State} (h : Cascade s t) (x n : Site) :
    Machine.dependent t x n = Machine.dependent s x n := by
  have k := h.carriers n
  simp only [Carrier.lasting, Prod.mk.injEq] at k
  simp only [Machine.dependent, k]

/-! ### The meanings of the commands that set a cascade going -/

/-- Every site request's result is put in the response record, and nothing else of the state is changed by that. -/
@[simp] theorem respond_carrier (a : State × Response) (n : Site) : (respond a).carrier n = a.1.carrier n := rfl

@[simp] theorem respond_rail (a : State × Response) (r : RailId) : (respond a).rail r = a.1.rail r := rfl

@[simp] theorem respond_port (a : State × Response) (t : Tenant) : (respond a).port t = a.1.port t := rfl

@[simp] theorem respond_response (a : State × Response) : (respond a).mgmt.response = a.2 := rfl

theorem reevalOwned_eases (t : Tenant) (s : State) : Eases s (reevalOwned t s) := by
  refine forList_eases _ (fun n u => ?_) _ s
  split
  · exact reeval_eases n u
  · exact .refl

theorem powerCarriers_eases (r : RailId) (s : State) : Eases s (powerCarriers r s) := by
  refine forList_eases _ (fun n u => ?_) _ s
  split
  · rename_i h
    simp only [Bool.and_eq_true, beq_iff_eq] at h
    exact powered_eases n u h.2
  · exact .refl

theorem tenantFault_moves (n : Site) (s : State) (h : (s.carrier n).power.inService) : Moves s (tenantFault n s) :=
  ((takeToFaulted_moves n .tenant s h).trans (railLoses_moves _ _ _)).trans (anchorLeaves_moves n _ _)

/-- All of a DISABLE after the record's own part. -/
theorem disableCarrier_moves (n : Site) (s : State) : Moves (takeOffline n s) (disableCarrier n s) :=
  (((railLoses_moves _ _ _).trans (leftExchange_eases _ _ _).moves).trans (leftDraining_eases _ _ _).moves).trans
    (anchorLeaves_moves n _ _)

end Sys2Proof.Machine
end

