-- ==== Sys2Proof/Tests/Slice0.lean ====
section
/-! SUPPORT. Tests of the model on fixed values from the manual, and one witness for the hypotheses of each statement. -/

namespace Sys2Proof.Tests

open Sys2Proof.Machine

set_option Elab.async false

/-! ### Commands that no pin or port can carry are ill-formed -/

theorem test_wf_reset : (Instr.powerOnReset 8).wellFormed = false := by decide
theorem test_wf_setCarrier_number : (Instr.setCarrier 256 0 0 0 0 0 0 0 0).wellFormed = false := by decide
theorem test_wf_setCarrier_owner : (Instr.setCarrier 0 256 0 0 0 0 0 0 0).wellFormed = false := by decide
theorem test_wf_setCarrier_role : (Instr.setCarrier 0 0 256 0 0 0 0 0 0).wellFormed = false := by decide
theorem test_wf_setCarrier_rail : (Instr.setCarrier 0 0 0 256 0 0 0 0 0).wellFormed = false := by decide
theorem test_wf_setCarrier_count : (Instr.setCarrier 0 0 0 0 256 0 0 0 0).wellFormed = false := by decide
theorem test_wf_setCarrier_anchors : (Instr.setCarrier 0 0 0 0 0 256 0 0 0).wellFormed = false ∧
    (Instr.setCarrier 0 0 0 0 0 0 256 0 0).wellFormed = false ∧
    (Instr.setCarrier 0 0 0 0 0 0 0 256 0).wellFormed = false := by decide
theorem test_wf_setCarrier_trim : (Instr.setCarrier 0 0 0 0 0 0 0 0 128).wellFormed = false ∧
    (Instr.setCarrier 0 0 0 0 0 0 0 0 (-129)).wellFormed = false ∧
    (Instr.setCarrier 255 255 255 255 255 255 255 255 (-128)).wellFormed = true := by decide
theorem test_wf_one_byte : (Instr.clearCarrier 256).wellFormed = false ∧ (Instr.enable 256).wellFormed = false ∧
    (Instr.disable 256).wellFormed = false ∧ (Instr.pin 256).wellFormed = false ∧ (Instr.unpin 256).wellFormed = false ∧
    (Instr.clearFaultCarrier 256).wellFormed = false ∧ (Instr.clearFaultRail 256).wellFormed = false ∧
    (Instr.selectBank 256).wellFormed = false ∧ (Instr.clearTally 256).wellFormed = false ∧
    (Instr.readCarrier 256).wellFormed = false ∧ (Instr.readRail 256).wellFormed = false ∧
    (Instr.readTenant 256).wellFormed = false := by decide
theorem test_wf_setSlices : (Instr.setSlices 256 0 0).wellFormed = false ∧ (Instr.setSlices 0 256 0).wellFormed = false ∧
    (Instr.setSlices 0 0 256).wellFormed = false := by decide
theorem test_wf_setRail : (Instr.setRail 256 0 0 0 0).wellFormed = false ∧
    (Instr.setRail 0 65536 0 0 0).wellFormed = false ∧ (Instr.setRail 0 0 65536 0 0).wellFormed = false ∧
    (Instr.setRail 0 0 0 65536 0).wellFormed = false ∧ (Instr.setRail 0 0 0 0 65536).wellFormed = false := by decide
theorem test_wf_setBias : (Instr.setBias 256 0).wellFormed = false ∧ (Instr.setBias 0 256).wellFormed = false := by decide
theorem test_wf_setWindow : (Instr.setWindow 16 0 0 0).wellFormed = false ∧ (Instr.setWindow 0 16 0 0).wellFormed = false ∧
    (Instr.setWindow 0 0 4096 0).wellFormed = false ∧ (Instr.setWindow 0 0 0 4096).wellFormed = false := by decide
theorem test_wf_clock : (Instr.setTime 16777216).wellFormed = false ∧ (Instr.setDivider 65536).wellFormed = false := by
  decide
theorem test_wf_setInputs : (Instr.setInputs 256 0 0).wellFormed = false ∧ (Instr.setInputs 0 256 0).wellFormed = false ∧
    (Instr.setInputs 0 0 256).wellFormed = false := by decide
theorem test_wf_setBankParam : (Instr.setBankParam 256 0 0).wellFormed = false ∧
    (Instr.setBankParam 0 256 0).wellFormed = false ∧ (Instr.setBankParam 0 0 65536).wellFormed = false := by decide
theorem test_wf_setPort : (Instr.setPort 256 0 0 0).wellFormed = false ∧ (Instr.setPort 0 256 0 0).wellFormed = false ∧
    (Instr.setPort 0 0 256 0).wellFormed = false ∧ (Instr.setPort 0 0 0 256).wellFormed = false := by decide
theorem test_wf_ackAlert : (Instr.ackAlert 256 [0, 0, 0, 0, 0, 0, 0, 0, 0, 0]).wellFormed = false ∧
    (Instr.ackAlert 0 [0]).wellFormed = false ∧
    (Instr.ackAlert 0 [0, 0, 0, 0, 0, 0, 0, 0, 0, 256]).wellFormed = false := by decide
theorem test_wf_malformed : (Instr.malformedSiteRecord []).wellFormed = false ∧
    (Instr.malformedSiteRecord (List.replicate 33 0)).wellFormed = false ∧
    (Instr.malformedSiteRecord [0x43, 0]).wellFormed = false ∧
    (Instr.malformedSiteRecord [0x43]).wellFormed = true := by decide
theorem test_wf_load : (Instr.load .a 256 0 0 0).wellFormed = false ∧ (Instr.load .a 0 65536 0 0).wellFormed = false ∧
    (Instr.load .a 0 0 256 0).wellFormed = false ∧ (Instr.load .a 0 0 0 (2 ^ 72)).wellFormed = false := by decide
theorem test_wf_answers : (Instr.accept .a 256 0 0).wellFormed = false ∧ (Instr.accept .a 0 256 0).wellFormed = false ∧
    (Instr.accept .a 0 0 (2 ^ 88)).wellFormed = false ∧ (Instr.decline .b 0 256 0).wellFormed = false ∧
    (Instr.drained .c 0 256 0).wellFormed = false := by decide
theorem test_wf_named : (Instr.wake .a 256 0).wellFormed = false ∧ (Instr.wake .a 0 (2 ^ 96)).wellFormed = false ∧
    (Instr.keep .a 256 0).wellFormed = false ∧ (Instr.unkeep .a 256 0).wellFormed = false ∧
    (Instr.fault .a 256 0).wellFormed = false ∧ (Instr.clear .a 256 0).wellFormed = false ∧
    (Instr.query .a 256 0).wellFormed = false := by decide
theorem test_wf_unknown : (Instr.unknownTenantRequest .a 256 0).wellFormed = false ∧
    (Instr.unknownTenantRequest .a 0x0B 256).wellFormed = false ∧
    (Instr.unknownTenantRequest .a 0x0A 0).wellFormed = false ∧
    (Instr.unknownTenantRequest .a 0x0F 0).wellFormed = false ∧
    (Instr.unknownTenantRequest .a 0x0B 255).wellFormed = true := by decide
theorem test_wf_start : (Instr.i2cStartCondition 128 true).wellFormed = false := by decide

/-! ### Records and frames, byte by byte as R189 and R192 lay them out -/

/-- Window 1 enabled, 23:30 (1410 = 0x582) to 05:15 (315 = 0x13B): two nibbles and two numbers of 12 bits. -/
theorem test_record_setWindow : decodeRecord [0x20, 4, 0x11, 0x58, 0x21, 0x3B] = .setWindow 1 1 1410 315 := by decide
theorem test_record_setCarrier : decodeRecord [0x01, 9, 5, 2, 1, 3, 2, 16, 20, 0, 0xF8] =
    .setCarrier 5 2 1 3 2 16 20 0 (-8) := by decide
theorem test_record_setRail : decodeRecord [0x10, 9, 2, 0, 180, 2, 0x58, 7, 0xD0, 0, 50] =
    .setRail 2 180 600 2000 50 := by decide
theorem test_record_setTime : decodeRecord [0x21, 3, 0x01, 0x51, 0x7F] = .setTime 86399 := by decide
theorem test_record_setBankParam : decodeRecord [0x24, 4, 1, 5, 0x0E, 0x10] = .setBankParam 1 5 3600 := by decide
theorem test_record_clearFault : decodeRecord [0x12, 2, 1, 3] = .clearFaultRail 3 ∧
    decodeRecord [0x12, 2, 0, 3] = .clearFaultCarrier 3 ∧
    decodeRecord [0x12, 2, 2, 3] = .malformedSiteRecord [0x12, 2, 2, 3] := by decide
theorem test_record_setPort : decodeRecord [0x30, 4, 1, 1, 60, 4] = .setPort 1 1 60 4 := by decide
theorem test_record_readSite : decodeRecord [0x43, 0] = .readSite := by decide

/-- POLL: marker 0xC3, kind 0x00, all else zero, check 255 − 0xC3 = 0x3C. -/
def pollFrame : BitVec 128 := 0xC300000000000000000000000000003C
/-- RESYNC: kind 0x0F, check 0x2D. -/
def resyncFrame : BitVec 128 := 0xC30F000000000000000000000000002D
/-- WAKE of local number 1: kind 0x05, check 0x36. -/
def wakeFrame : BitVec 128 := 0xC3050100000000000000000000000036
/-- LOAD of local number 3, u = 0x0123, n = 4: sum 0xC3 + 1 + 3 + 1 + 0x23 + 4 = 0xEF, check 0x10. -/
def loadFrame : BitVec 128 := 0xC3010301230400000000000000000010

theorem test_frame_poll : framePasses pollFrame = true ∧ framePasses (pollFrame + 1) = false := by decide
theorem test_frame_wake : framePasses wakeFrame = true ∧
    decodeRequest .b (frameRequest wakeFrame) = .wake .b 1 0 := by decide
theorem test_frame_load : framePasses loadFrame = true ∧
    decodeRequest .a (frameRequest loadFrame) = .load .a 3 0x123 4 0 := by decide
/-- OFFER of local number 9, token 255, overrun set, 5 waiting: 0xC3 + 0x10 + 0x85 + 9 + 0xFF = 0x260, check 0x9F. -/
theorem test_frame_offer : outboundFrame (some (.offer 25 9 255)) true 5 =
    [0xC3, 0x10, 0x85, 9, 0xFF, 0, 0, 0, 0, 0, 0, 0, 0, 0, 0, 0x9F] := by decide

/-! ### Values that the manual works out -/

/-- R26: a d of −2790 with k = 2 gives −697, and one of +2790 gives +697. -/
theorem test_smooth : smooth 2 2790 0 = 2093 ∧ smooth 2 0 2790 = 697 ∧ smooth 0 5 9 = 9 := by decide
/-- R42: 23:29:59 is outside a window from 1410 to 315, 23:30:00 inside, 05:14:59 inside, 05:15:00 outside. -/
theorem test_window : (⟨true, 1410, 315⟩ : Window).contains 84599 = false ∧
    (⟨true, 1410, 315⟩ : Window).contains 84600 = true ∧ (⟨true, 1410, 315⟩ : Window).contains 18899 = true ∧
    (⟨true, 1410, 315⟩ : Window).contains 18900 = false := by decide
/-- R43: at 05:00 the window 23:30 to 05:15 has 900 s left; a window of 0 to 1439 has 86340 s at t = 0. -/
theorem test_remaining : (⟨true, 1410, 315⟩ : Window).remaining 18000 = 900 ∧
    (⟨true, 0, 1439⟩ : Window).remaining 0 = 86340 := by decide
/-- R28: the effective sleep threshold is clamped to 0 to 1000. -/
theorem test_classes : classify Bank.reset0 (-8) 2271 = .below ∧ classify Bank.reset0 (-8) 2272 = .band ∧
    classify Bank.reset0 0 4799 = .band ∧ classify Bank.reset0 0 4800 = .busy := by decide

/-! ### A small site

Carrier 0 is an ACTIVE COVERAGE carrier of tenant A on rail 0; carrier 1 a CAPACITY carrier of A on rail 1, anchored on 0,
in the power state asked for. It is night, and A is LINKED without supervision and sees slice 0. -/

theorem forall_tenant {P : Tenant → Prop} : (∀ u, P u) ↔ P .a ∧ P .b ∧ P .c :=
  ⟨fun h => ⟨h .a, h .b, h .c⟩, fun ⟨a, b, c⟩ u => by cases u <;> assumption⟩

def anchor : Carrier := { Carrier.reset with provisioned := true, power := .active, load := some 800, staleTimer := some 0 }

def cell (p : Power) : Carrier :=
  { Carrier.reset with
    provisioned := true
    role := .capacity
    rail := 1
    anchors := [0]
    power := p
    cause := if p = .faulted then some .tenant else none
    load := if p = .offline ∨ p = .waking then none else some 100
    answerTimer := if p = .offered then some 0 else none
    drainTimer := if p = .draining then some 0 else none
    token := 7 }

def demo (p : Power) : State :=
  { State.reset with
    clock := { Clock.reset with valid := true, tod := 4000, windows := #v[⟨true, 60, 120⟩, ⟨false, 0, 0⟩] }
    carriers := (State.reset.carriers.set 0 anchor).set 1 (cell p)
    stack := if p = .asleep then [1] else []
    rails := #v[{ Rail.reset true with state := .on },
      { Rail.reset true with
        state := if p = .waking then .retryWait else if p.needs then .on else .off
        retryTimer := if p = .waking then some 0 else none }, Rail.reset false, Rail.reset false]
    ports := { State.reset.ports with a := { Port.reset true with p0 := some 0, link := .linked, linkWindow := 0 } } }

theorem demo_carriersOk (p : Power) : CarriersOk (demo p) := by
  refine ⟨?_, ?_, ?_⟩
  · cases p <;> decide +kernel
  · simp only [QueuesOk, forall_tenant]; cases p <;> decide +kernel
  · cases p <;> decide +kernel

theorem demo_anchorsOk (p : Power) : AnchorsOk (demo p) := by cases p <;> decide +kernel

theorem demo_rampOk (p : Power) : RampOk (demo p) := by cases p <;> decide +kernel

theorem demo_powerOk (p : Power) : PowerOk (demo p) := by cases p <;> decide +kernel

theorem demo_ripeOk (p : Power) : RipeOk (demo p) := by
  simp only [RipeOk, forall_tenant]; cases p <;> decide +kernel

theorem demo_coverageOk (p : Power) : CoverageOk (demo p) := by
  simp only [CoverageOk, forall_tenant]; cases p <;> decide +kernel

theorem demo_nightOk (p : Power) : NightOk (demo p) := by
  simp only [NightOk, forall_tenant]; cases p <;> decide +kernel

theorem demo_slotsOk (p : Power) : SlotsOk (demo p) := by
  simp only [SlotsOk, forall_tenant]; cases p <;> decide +kernel

theorem demo_settingsOk (p : Power) : SettingsOk (demo p) := by
  simp only [SettingsOk, forall_tenant]; cases p <;> decide +kernel

theorem demo_portsOk (p : Power) : PortsOk (demo p) := by
  intro u; cases u <;> cases p <;> decide +kernel

/-- A request of tenant A about carrier 1 is taken and translates. -/
theorem demo_translates (p : Power) : ((demo p).port .a).canTake = true ∧ translate (demo p) .a 1 = .ok 1 := by
  refine ⟨?_, ?_⟩ <;> cases p <;> rfl

/-! ### One step each -/

/-- A site at a moment of its time base. -/
def atTime (k : Time) (s : State) : State := { s with clock := { s.clock with now := k } }

/-- The state after a command. -/
def after (i : Instr) (s : State) : State :=
  match exec i s with
  | .next t => t
  | .fault f => nomatch f
  | .refused _ => s

/-- R16, R89, R102: a carrier enabled on a rail in ON is ACTIVE at once, with its POWERED notice. -/
theorem test_enable : ((after (.enable 1) ((demo .offline).modRail 1 fun x => { x with state := .on })).carrier 1).power =
    .active ∧ ((after (.enable 1) ((demo .offline).modRail 1 fun x => { x with state := .on })).port .a).notices =
    [.powered 1 1] := by decide +kernel

/-- R24, R25: u = 20 and n = 5 with w = 4 give L = 40, and a re-seeded S is 640. -/
theorem test_load_seeds : ((after (.load .a 1 20 5 0) ((demo .active).modCarrier 1 fun c =>
    { c with stale := true })).carrier 1).load = some 640 := by decide +kernel

/-- R67, R87, R108: the last carrier of its rail falls asleep; the rail is in HOLD with its grace timer running. -/
theorem test_drained : (after (.drained .a 1 7 0) (demo .draining)).stack = [1] ∧
    ((after (.drained .a 1 7 0) (demo .draining)).rail 1).state = .hold ∧
    ((after (.drained .a 1 7 0) (demo .draining)).rail 1).graceTimer = some 0 := by decide +kernel

/-- R46: STAND_DOWN ends the night with cause HOLD; the sleeper's rail joins the ramp and takes the free slot. -/
theorem test_standDown : ((after .standDown (demo .asleep)).carrier 1).power = .waking ∧
    (after .standDown (demo .asleep)).ramp.slot = some 1 := by decide +kernel

/-- R121, R154: the fall of power-good of rail 0 faults the anchor, and restoration withdraws its dependent (R77). -/
theorem test_powerGoodFall : ((after (.powerGoodFall 0) (demo .offered)).carrier 0).cause = some .rail ∧
    ((after (.powerGoodFall 0) (demo .offered)).port .a).notices =
      [.faulted 0 0, .withdraw 1 1 7 .coverage] := by decide +kernel

/-- R33, R39: a stale timer started at 0 expires at 30 s and not before, and a LOAD taken first restarts it. -/
theorem test_stale_limit :
    let site := fun k => atTime k (demo .active)
    ((after (.staleTimerExpiry 0) (site 29999)).carrier 0).stale = false ∧
    ((after (.staleTimerExpiry 0) (site 30000)).carrier 0).stale = true ∧
    ((after (.staleTimerExpiry 0) (after (.load .a 0 20 5 0) (site 30000))).carrier 0).stale = false := by decide +kernel

/-- R142: SELECT_BANK to a bank whose answer time has passed withdraws an offer with TIMEOUT. -/
theorem test_bank_change_times_out :
    let site : State :=
      { atTime 4000 (demo .offered) with banks := ⟨#v[Bank.reset0, { Bank.reset1 with answerTime := 4 }], .auto⟩ }
    ((after (.selectBank 2) site).port .a).notices = [.withdraw 1 1 7 .timeout] := by decide +kernel

/-- R180: the response record of a part that has processed no record is read as NO_RECORD, length 0, then 0xFF. -/
theorem test_read_before_record : (after (.i2cDataByte 0 true) (after (.i2cStartCondition 0x50 true) State.reset)).mgmt.sda =
    .data 0xFF ∧ (after (.i2cDataByte 0 true) (after (.i2cDataByte 0 true)
      (after (.i2cStartCondition 0x50 true) State.reset))).mgmt.sda = .data 0 := by decide +kernel

/-! ### Witnesses: states and operands that meet the hypotheses of the statements, clause by clause -/

/-- The small site with one rail changed. -/
def onRail (p : Power) (r : RailId) (st : RailState) : State := (demo p).modRail r fun x =>
  { x with
    state := st
    graceTimer := if st = .hold then some 0 else none
    settleTimer := if st = .ramping then some (0, 100) else none
    retryTimer := if st = .retryWait then some 0 else none }

/-- The small site with the port of A changed. -/
def onPort (p : Power) (f : Port → Port) : State := (demo p).modPort .a f

/-- The small site at the end of a transfer whose inbound frame is given. -/
def atFrameEnd (frame : BitVec 128) : State := onPort .active fun p =>
  { p with tselHigh := false, transfer := .active 128 frame 0 }

/-- The small site with the sleeper's rail held. -/
def heldSite : State := (onRail .asleep 1 .hold).modRail 1 fun x => { x with graceTimer := none, held := true }

theorem witness_StepRunsFrontCommand :
    ({ State.reset with pending := [.readSite, .resume] } : State).pending = .readSite :: [.resume] := by decide +kernel

theorem witness_IdleStepLetsTimePass :
    let at' := fun k => { State.reset with clock := { Clock.reset with subTicks := k } }
    let stuck := { State.reset with
      clock := { Clock.reset with now := 25 }
      mgmt := { Mgmt.reset 0 true with busTimer := some 0 } }
    stuck.pending = [] ∧ nextExpiry stuck = some .busTimeout ∧
    (at' 998).pending = [] ∧ nextExpiry (at' 998) = none ∧ (at' 998).clock.subTicks + 1 < 1000 ∧
    (at' 999).pending = [] ∧ nextExpiry (at' 999) = none ∧ 1000 ≤ (at' 999).clock.subTicks + 1 := by decide +kernel

theorem witness_PowerOnResetUnits : (7 : Nat) < 8 := by decide

theorem witness_SetCarrierChecksAndWrites :
    (32 : Nat) ≤ 32 ∧ (31 : Nat) = (31 : Site).val ∧
    (((demo .active).carrier 1).provisioned = true ∧ ((demo .active).carrier 1).power ≠ .offline) ∧
    (((demo .active).carrier 31).provisioned = false ∧
      SetCarrierBadField (demo .active) 31 0 1 0 1 [0, 0, 0] 8 ∧ SetCarrierBadField (demo .active) 31 3 1 0 1 [0, 0, 0] 7 ∧
      SetCarrierBadField (demo .active) 31 0 1 0 2 [0, 0, 0] 7 ∧
      ¬ SetCarrierBadField (demo .active) 31 0 1 3 1 [0, 0, 0] 7 ∧
      ¬ SetCarrierBadField (demo .active) 31 2 0 3 0 [0, 0, 0] (-8)) := by
  refine ⟨?_, ?_, ?_, ?_, ?_, ?_, ?_, ?_, ?_⟩ <;> decide +kernel

theorem witness_ClearCarrierChecksAndWrites :
    let idle := (demo .offline).modCarrier 0 fun c => { c with power := .offline, load := none, staleTimer := none }
    (32 : Nat) ≤ 32 ∧ (31 : Nat) = (31 : Site).val ∧ (idle.carrier 31).provisioned = false ∧
    (((demo .active).carrier 1).provisioned = true ∧ ((demo .active).carrier 1).power ≠ .offline) ∧
    ((idle.carrier 0).provisioned = true ∧ (idle.carrier 0).power = .offline ∧
      ∃ m : Site, m ≠ 0 ∧ (idle.carrier m).provisioned = true ∧ 0 ∈ (idle.carrier m).anchors) ∧
    ((idle.carrier 1).provisioned = true ∧ (idle.carrier 1).power = .offline ∧
      ¬ ∃ m : Site, m ≠ 1 ∧ (idle.carrier m).provisioned = true ∧ 1 ∈ (idle.carrier m).anchors) := by decide +kernel

theorem witness_EnableChecksAndWakes :
    let bare := (demo .offline).modCarrier 1 fun c => { c with anchors := [] }
    let hidden := onPort .offline fun p => { p with p0 := some 1 }
    let lost := onPort .offline fun p => { p with link := .lost }
    (32 : Nat) ≤ 32 ∧ (31 : Nat) = (31 : Site).val ∧ ((demo .offline).carrier 31).provisioned = false ∧
    ((demo .active).carrier 1).power ≠ .offline ∧
    ((bare.carrier 1).power = .offline ∧ (bare.carrier 1).role = .capacity ∧ (bare.carrier 1).anchors = []) ∧
    ((hidden.carrier 1).power = .offline ∧ (hidden.port .a).p0 ≠ some (sliceOf 1) ∧
      (hidden.port .a).p1 ≠ some (sliceOf 1)) ∧
    ((lost.carrier 1).power = .offline ∧ (lost.port .a).p0 = some (sliceOf 1) ∧ (lost.port .a).link ≠ .linked) := by
  decide +kernel

theorem witness_DisableTakesOffline :
    (32 : Nat) ≤ 32 ∧ (1 : Nat) = (1 : Site).val ∧ ((demo .offline).carrier 31).provisioned = false ∧
    ((demo .offline).carrier 1).power = .offline ∧
    (((demo .asleep).carrier 1).provisioned = true ∧ ((demo .asleep).carrier 1).power ≠ .offline ∧
      ((demo .asleep).carrier 1).role = .capacity ∧ ((demo .asleep).carrier 1).power.inExchange = false) ∧
    (heldSite.rail 1).held = true ∧ (heldSite.rail 1).state = .hold ∧ sleepersOn heldSite 1 = 1 ∧
    QueuesOk (demo .asleep) := by
  refine ⟨?_, ?_, ?_, ?_, ?_, ?_, ?_, ?_, (demo_carriersOk .asleep).2.1⟩ <;> decide +kernel

theorem witness_SetSlicesChecksAndWrites :
    let free := onPort .active fun p => { p with link := .disabled }
    (2 : Nat) < 3 ∧ ((3 : Nat) < 4 ∧ (4 : Nat) ≠ 0xFF) ∧ ((3 : Nat) < 254 ∧ (254 : Nat) ≠ 0xFF) ∧
    (2 : Nat) = tenantCode .c ∧ (3 : Nat) = pointerCode (some 3) ∧ (255 : Nat) = pointerCode none ∧
    ((demo .active).port .a).link ≠ .disabled ∧
    ((free.port .a).link = .disabled ∧ ∃ n : Site, (free.carrier n).provisioned = true ∧ (free.carrier n).owner = .a ∧
      (free.carrier n).power ≠ .offline ∧ some 3 ≠ some (sliceOf n) ∧ none ≠ some (sliceOf n)) ∧
    ¬ ∃ n : Site, (free.carrier n).provisioned = true ∧ (free.carrier n).owner = .a ∧
      (free.carrier n).power ≠ .offline ∧ some 0 ≠ some (sliceOf n) ∧ none ≠ some (sliceOf n) := by decide +kernel

theorem witness_PinRequestsAndEffects :
    let kept := fun p => (demo p).modCarrier 1 fun c => { c with pins := ⟨true, true, false⟩ }
    let kept' := (demo .active).modCarrier 1 fun c => { c with pins := ⟨false, true, false⟩ }
    (32 : Nat) ≤ 32 ∧ ((demo .offline).carrier 31).provisioned = false ∧ ((demo .offline).carrier 1).power = .offline ∧
    (((demo .active).port .a).canTake = true ∧ translate (demo .active) .a 1 = .ok 1) ∧
    (((demo .active).carrier 1).pins.has .tenant = false ∧
      ((demo .active).carrier 1).power = .active) ∧
    ((demo .offered).carrier 1).power = .offered ∧ ((demo .draining).carrier 1).power = .draining ∧
    ((demo .asleep).carrier 1).power = .asleep ∧ ((demo .waking).carrier 1).power = .waking ∧
    ((demo .faulted).carrier 1).power = .faulted ∧
    (((kept .active).carrier 1).pins.has .tenant = true ∧
      (((kept .active).modCarrier 1 fun c => { c with pins := c.pins.put .tenant false }).carrier 1).pins ≠
        PinSet.empty) ∧
    ((kept'.carrier 1).pins.has .tenant = true ∧
      ((kept'.modCarrier 1 fun c => { c with pins := c.pins.put .tenant false }).carrier 1).pins = PinSet.empty) := by
  refine ⟨by decide, by decide +kernel, by decide +kernel, demo_translates _, ?_⟩
  decide +kernel

theorem witness_WakingByRailState :
    let busy := { onRail .offline 1 .off with ramp := ⟨[], [], some 2⟩ }
    let waits := { onRail .offline 1 .queued with ramp := ⟨[], [1], some 2⟩ }
    let first := { onRail .offline 1 .queued with ramp := ⟨[1], [], some 2⟩ }
    ((onRail .offline 1 .ramping).rail 1).state = .ramping ∧ ((onRail .offline 1 .retryWait).rail 1).state = .retryWait ∧
    ((busy.rail 1).state = .off ∧ busy.ramp.slot ≠ none) ∧
    (((onRail .offline 1 .off).rail 1).state = .off ∧ (onRail .offline 1 .off).ramp = ⟨[], [], none⟩) ∧
    ((first.rail 1).state = .queued ∧ 1 ∉ first.ramp.ordinary) ∧
    ((waits.rail 1).state = .queued ∧ 1 ∈ waits.ramp.ordinary) ∧
    (((onRail .offline 1 .on).rail 1).state = .on ∧ ((onRail .offline 1 .on).carrier 1).role = .capacity) ∧
    ((onRail .offline 1 .hold).rail 1).state = .hold ∧ ((onRail .offline 1 .fault).rail 1).state = .fault ∧
    (((demo .active).carrier 0).role = .coverage ∧ ((demo .active).rail ((demo .active).carrier 0).rail).state = .on ∧
      ((onRail .offline 0 .hold).rail ((onRail .offline 0 .hold).carrier 0).rail).state = .hold ∧
      dependent (demo .active) 0 1 = true) ∧ QueuesOk (demo .active) := by
  refine ⟨?_, ?_, ?_, ?_, ?_, ?_, ?_, ?_, ?_, ?_, (demo_carriersOk _).2.1⟩ <;> decide +kernel

theorem witness_ReturnsToActive :
    ((demo .active).carrier 1).power.inExchange = false ∧
    (((demo .offered).carrier 1).power.inExchange = true ∧ 1 ∉ ((demo .offered).carrier 1).anchors ∧
      ((demo .offered).port ((demo .offered).carrier 1).owner).link ≠ .disabled ∧ QueuesOk (demo .offered)) ∧
    (((demo .draining).port .a).canTake = true ∧ translate (demo .draining) .a 1 = .ok 1 ∧
      ((demo .draining).carrier 1).power = .draining ∧ QueuesOk (demo .draining) ∧
      1 ∉ ((demo .draining).carrier 1).anchors) := by
  refine ⟨by decide +kernel, ⟨by decide +kernel, by decide +kernel, by decide +kernel, (demo_carriersOk _).2.1⟩,
    (demo_translates _).1, (demo_translates _).2, by decide +kernel, (demo_carriersOk _).2.1, by decide +kernel⟩

/-- Carrier 1 is ripe. -/
def ripeSite : State := (demo .active).modCarrier 1 fun c => { c with dwell := .elapsed 0, minAwake := .passed 0 }

theorem witness_RipeCarriersAreOffered :
    let queued := ripeSite.modPort .a fun p => { p with offerQueue := [1] }
    let full := (ripeSite.modCarrier 2 fun _ => cell .offered).modPort .a fun p => { p with drainSlots := 1 }
    ripe (demo .active) 1 = false ∧ (ripe queued 1 = true ∧ 1 ∈ (queued.port .a).offerQueue) ∧
    (ripe full 1 = true ∧ 1 ∉ (full.port .a).offerQueue ∧ (full.port .a).drainSlots ≤ outstanding full .a) ∧
    (ripe ripeSite 1 = true ∧ (ripeSite.port .a).offerQueue = [] ∧
      outstanding ripeSite .a < (ripeSite.port .a).drainSlots) := by decide +kernel

theorem witness_RailConfigurationRequests :
    (4 : Nat) ≤ 4 ∧ (3 : Nat) = (3 : RailId).val ∧
    ((400 : Nat) < 401 ∧ (3600 : Nat) < 3601 ∧ (9 : Nat) < 10 ∧ (2000 : Nat) < 2001) ∧
    (¬ ((400 : Nat) < 400 ∨ 3600 < 3600 ∨ 10 < 10 ∨ 2000 < 10 ∨ 2000 < 10 ∨ 2000 < 2000)) ∧
    (1 : Nat) < 2 ∧ (1 : Nat) = Bias.reduced.code ∧ ((4 : Nat) ≤ 254 ∧ (254 : Nat) ≠ 0xFF) ∧
    (255 : Nat) = 0xFF := by decide

/-- The small site with rail 1 in FAULT and carrier 1 FAULTED by it. -/
def railFaulted : State := (onRail .faulted 1 .fault).modCarrier 1 fun c => { c with cause := some .rail }

theorem witness_ClearFaultRailWakes :
    let busy := { railFaulted.modRail 2 (fun x => { x with state := .ramping, settleTimer := some (0, 100) }) with
      ramp := ⟨[], [], some 2⟩ }
    (4 : Nat) ≤ 4 ∧ (3 : Nat) = (3 : RailId).val ∧ ((demo .active).rail 3).state ≠ .fault ∧
    ((railFaulted.rail 1).state = .fault ∧ railFaulted.ramp.slot = none ∧ (railFaulted.carrier 1).provisioned = true ∧
      (railFaulted.carrier 1).rail = 1 ∧ (railFaulted.carrier 1).power = .faulted ∧
      (railFaulted.carrier 1).cause = some .rail) ∧ RampOk railFaulted ∧
    (busy.ramp.slot ≠ none ∧ (busy.rail 1).state = .fault) ∧ RampOk busy ∧
    ((((onRail .faulted 1 .fault).rail 1).state = .fault) ∧ ∀ n : Site, ((onRail .faulted 1 .fault).carrier n).cause ≠
      some .rail) := by
  refine ⟨?_, ?_, ?_, ?_, ?_, ?_, ?_, ?_⟩ <;> decide +kernel

theorem witness_RailNeedsAndTimers :
    let needless := fun st => (onRail .asleep 1 st)
    let noGrace := { needless .on with
      banks := ⟨#v[{ Bank.reset0 with railGrace := 0 }, Bank.reset1], .auto⟩ }
    let busy := { onRail .waking 1 .retryWait with ramp := ⟨[], [], some 2⟩ }
    needCount (demo .active) 1 ≠ 0 ∧ needCount (needless .on) 1 = 0 ∧
    (((needless .on).rail 1).state = .on ∧ (bank (needless .on)).railGrace ≠ 0) ∧
    (needCount noGrace 1 = 0 ∧ (noGrace.rail 1).state = .on ∧ (bank noGrace).railGrace = 0) ∧
    ((needless .queued).rail 1).state = .queued ∧ ((needless .off).rail 1).state = .off ∧
    ((heldSite.rail 1).held = true ∧ sleepersOn ((heldSite).modCarrier 1 fun c => { c with power := .offline }) 1 = 0) ∧
    (graceDue (atTime 59999 (needless .hold)) 1 = false ∧ retryDue (atTime 1999 (needless .retryWait)) 1 = false) ∧
    (graceDue (atTime 60000 (needless .hold)) 1 = true ∧ ((needless .hold).rail 1).state = .hold) ∧
    (retryDue (atTime 2000 (needless .retryWait)) 1 = true ∧ ((needless .retryWait).rail 1).state = .retryWait ∧
      needCount (needless .retryWait) 1 = 0) ∧
    (needCount busy 1 ≠ 0 ∧ busy.ramp.slot ≠ none ∧ retryDue (atTime 2000 busy) 1 = true) ∧
    (needCount (demo .waking) 1 ≠ 0 ∧ (demo .waking).ramp = ⟨[], [], none⟩ ∧
      retryDue (atTime 2000 (demo .waking)) 1 = true ∧ ((demo .waking).rail 1).state = .retryWait) := by
  refine ⟨?_, ?_, ?_, ?_, ?_, ?_, ?_, ?_, ?_, ?_, ?_, ?_⟩ <;> decide +kernel

/-- The small site with rail 1 ramping, its settle timer at its length. -/
def ramping (p : Power) (retry : Bool) : State :=
  atTime 100 { (onRail p 1 .ramping).modRail 1 (fun x => { x with retry := retry }) with ramp := ⟨[], [], some 1⟩ }

/-- R123: of a settle expiry and a fall of RAIL_PG in one moment, the fall taken first makes the sample low, and the good
sample taken first is followed by the fault. -/
theorem test_fall_meets_settle :
    ((after (.settleExpiry 1 true) (after (.powerGoodFall 1) (ramping .waking false))).rail 1).state = .retryWait ∧
    ((after (.powerGoodFall 1) (after (.settleExpiry 1 true) (ramping .waking false))).rail 1).state = .fault := by
  decide +kernel

theorem witness_SettleExpirySamples :
    (settleDue (demo .active) 1 = false ∧ settleDue (atTime 99 (ramping .asleep false)) 1 = false) ∧
    (settleDue (ramping .asleep false) 1 = true ∧ ((ramping .asleep false).rail 1).state = .ramping ∧
      needCount (ramping .asleep false) 1 = 0 ∧ (bank (ramping .asleep false)).railGrace ≠ 0 ∧
      ((ramping .asleep false).rail 1).retry = false) ∧
    (¬ (((ramping .asleep false).rail 1).toldAt = some (ramping .asleep false).now ∧
        ((ramping .asleep false).rail 1).powerGood = false) ∧
      (let fallen := after (.powerGoodFall 1) (ramping .asleep false)
       (fallen.rail 1).toldAt = some fallen.now ∧ (fallen.rail 1).powerGood = false)) ∧
    (bank { ramping .asleep false with banks := ⟨#v[{ Bank.reset0 with railGrace := 0 }, Bank.reset1], .auto⟩ }).railGrace
      = 0 ∧
    (settleDue (ramping .waking true) 1 = true ∧ ((ramping .waking true).rail 1).state = .ramping ∧
      needCount (ramping .waking true) 1 ≠ 0 ∧ ((ramping .waking true).rail 1).retry = true ∧
      ((ramping .waking true).carrier 1).power = .waking ∧ ((ramping .waking true).carrier 1).rail = 1) ∧
    ¬ ((ramping .waking true).rail 1).toldAt = some (ramping .waking true).now ∧
    RampOk (ramping .waking true) ∧ QueuesOk (ramping .waking true) := by
  refine ⟨?_, ?_, ?_, ?_, ?_, ?_, ?_, ?_⟩
  · decide +kernel
  · decide +kernel
  · decide +kernel
  · decide +kernel
  · decide +kernel
  · decide +kernel
  · decide +kernel
  · simp only [QueuesOk, forall_tenant]; decide +kernel

theorem witness_PowerGoodFallFaults :
    (((demo .asleep).rail 1).state ≠ .on ∧ ((demo .asleep).rail 1).state ≠ .hold) ∧
    ((demo .offered).rail 1).state = .on ∧ CarriersOk (demo .offered) ∧ RampOk (demo .offered) ∧
    (((demo .offered).carrier 1).provisioned = true ∧ ((demo .offered).carrier 1).rail = 1 ∧
      ((demo .offered).carrier 1).power ≠ .offline ∧ ((demo .offered).carrier 1).power ≠ .faulted ∧
      ((demo .offered).port ((demo .offered).carrier 1).owner).link ≠ .disabled) ∧
    ((onRail .faulted 1 .hold).rail 1).state = .hold ∧ CarriersOk (onRail .faulted 1 .hold) ∧
    RampOk (onRail .faulted 1 .hold) ∧ ((onRail .faulted 1 .hold).carrier 1).power = .faulted ∧
    ((onRail .offline 1 .hold).carrier 1).power = .offline := by
  refine ⟨by decide +kernel, by decide +kernel, demo_carriersOk _, demo_rampOk _, by decide +kernel, by decide +kernel,
    ⟨by decide +kernel, ?_, by decide +kernel⟩, by decide +kernel, by decide +kernel, by decide +kernel⟩
  simp only [QueuesOk, forall_tenant]; decide +kernel

theorem witness_GrantSteps :
    let waiting := { demo .offline with ramp := ⟨[3], [1, 0], none⟩ }
    ({ waiting with ramp := ⟨[3], [], some 1⟩ }).ramp.slot ≠ none ∧ (demo .offline).ramp.queue = [] ∧
    (waiting.ramp.slot = none ∧ waiting.ramp.queue = 3 :: [1, 0] ∧ (3 : RailId) ∉ ([1, 0] : List RailId)) := by
  decide +kernel

theorem witness_WindowsAndNight :
    ((⟨true, 0, 1439⟩ : Window).enabled = true ∧ (⟨true, 0, 1439⟩ : Window).contains 86339 = true ∧
      (86339 : Nat) < 86400) ∧
    ((⟨true, 1439, 0⟩ : Window).contains 86399 = true ∧ (⟨true, 1439, 0⟩ : Window).stop ≤ 1439) ∧
    ((⟨false, 0, 1439⟩ : Window).enabled = false ∧ (⟨true, 0, 1439⟩ : Window).contains 86340 = false) ∧
    SettingsOk (demo .active) := by
  refine ⟨by decide, by decide, by decide, demo_settingsOk _⟩

theorem witness_ClockRequests :
    (86400 : Nat) ≤ 86400 ∧ (86399 : Nat) < 86400 ∧ (2 : Nat) ≤ 2 ∧ ((1 : Nat) < 2 ∧ (1439 : Nat) < 1440) ∧
    ((1 : Nat) = (1 : Fin 2).val ∧ (1 : Nat) ≤ 1 ∧ (1439 : Nat) ≤ 1439) := by decide

theorem witness_NightEndClears :
    let held := { demo .asleep with inputs := { (demo .asleep).inputs with standDown := true } }
    let waits := { onRail .asleep 1 .queued with ramp := ⟨[], [1], some 2⟩ }
    (night (demo .asleep) = true ∧ night held = false) ∧
    (((demo .draining).carrier 1).power.inExchange = true ∧
      ((demo .draining).port ((demo .draining).carrier 1).owner).link ≠ .disabled) ∧
    ((held.carrier 1).power = .asleep ∧ (held.rail (held.carrier 1).rail).state = .off ∧
      ({ held with ramp := ⟨[], [], some 2⟩ }).ramp.slot ≠ none) ∧
    (waits.ramp.slot ≠ none ∧ (waits.carrier 1).power = .asleep ∧ (waits.rail 1).state = .queued ∧
      1 ∈ waits.ramp.ordinary) ∧ CarriersOk held := by
  refine ⟨by decide +kernel, by decide +kernel, by decide +kernel, by decide +kernel, by decide +kernel, ?_,
    by decide +kernel⟩
  simp only [QueuesOk, forall_tenant]; decide +kernel

theorem witness_SecondsEventCounts :
    night { demo .asleep with clock := { (demo .asleep).clock with tod := 4001, now := 1000 } } = night (demo .asleep) := by
  decide +kernel

theorem witness_SetBankParamChecksAndWrites :
    ((2 : Nat) ≤ 2 ∧ (12 : Nat) ≤ 12) ∧ ((1 : Nat) = (1 : Fin 2).val ∧ (11 : Nat) < 12) ∧
    (1000 < 1001 ∧ (paramRange 3).2 < 1001 ∧ 0 < (paramRange 3).1) ∧
    ((demo .active).banks.bank[(0 : Fin 2)].busyThreshold ≤ 300 ∧
      150 ≤ (demo .active).banks.bank[(0 : Fin 2)].sleepThreshold) ∧
    ¬ ((299 < (paramRange 2).1 ∨ (paramRange 2).2 < 299) ∨ (demo .active).banks.bank[(0 : Fin 2)].busyThreshold ≤ 299) ∧
    (selectedBank (demo .active) = 0 ∧ (demo .active).banks.bank[(0 : Fin 2)].param 11 ≠ some 0) ∧ (4 : Nat) < 5 := by
  decide +kernel

theorem witness_SelectBankSelects :
    (2 : Nat) < 3 ∧ (2 : Nat) = BankMode.bank1.code ∧
    selectedBank { demo .active with banks := { (demo .active).banks with mode := .bank0 } } = selectedBank (demo .active) ∧
    selectedBank { demo .active with banks := { (demo .active).banks with mode := .bank1 } } ≠ selectedBank (demo .active) ∧
    (∀ n, Period.answer.reached (demo .offered) n = false) ∧
    (SettingsOk (atTime 5000 (demo .offered)) ∧ Period.answer.command 1 = some (.answerTimerExpiry 1) ∧
      ∀ n, Period.answer.reached (atTime 5000 (demo .offered)) n = true ↔ n = 1) ∧
    (∀ r, graceDue (atTime 60000 (onRail .asleep 1 .hold)) r = true ↔ r = 1) ∧
    (CarriersOk (atTime 5000 (demo .offered)) ∧ ((demo .offered).carrier 1).power = .offered ∧
      drainDue (atTime 120000 (demo .draining)) 1 = true) ∧
    (let dwelling := atTime 900000 ((demo .active).modCarrier 1 fun c => { c with dwell := .running 0 })
     dwellDue dwelling 1 = true ∧ SettingsOk dwelling ∧ CarriersOk dwelling ∧ RipeOk dwelling) := by
  refine ⟨?_, ?_, ?_, ?_, ?_, ⟨demo_settingsOk .offered, ?_, ?_⟩, ?_, ⟨demo_carriersOk .offered, ?_, ?_⟩, ?_,
    demo_settingsOk .active, ⟨?_, ?_, ?_⟩, ?_⟩
  all_goals first | decide +kernel | (simp only [QueuesOk, RipeOk, forall_tenant]; decide +kernel)

theorem witness_LineConditioning :
    let line := fun (l : Line) (code : Fin 4) => { State.reset with inputs := ⟨l, l, code, false⟩ }
    let l0 : Line := ⟨false, false, false, none⟩
    let l1 : Line := ⟨false, false, false, some 0⟩
    ((false != (line l0 1).inputs.holdIn.activeLow) != (line l0 1).inputs.holdIn.conditioned) = false ∧
    (((true != (line l0 1).inputs.holdIn.activeLow) != (line l0 1).inputs.holdIn.conditioned) = true ∧
      (line l0 1).inputs.holdIn.timer = none ∧ (line l0 1).inputs.debounce ≠ 0 ∧ (line l0 0).inputs.debounce = 0) ∧
    ((line l1 1).inputs.holdIn.timer = some 0 ∧ elapsedSince (line l1 1) 0 < debounceTicks (line l1 1).inputs.debounce) ∧
    (debounceDue (atTime 9 (line l1 1)) .holdIn = false ∧ debounceDue (atTime 10 (line l1 1)) .holdIn = true) ∧
    ((1 : Nat) < 2 ∧ (3 : Nat) < 4 ∧ (3 : Nat) = (3 : Fin 4).val ∧ (1 : Nat) ≤ 1) ∧
    ((line l0 1).inputs.holdIn.level != ((0 : Nat) == 1)) = (line l0 1).inputs.holdIn.conditioned ∧
    (((line l0 1).inputs.holdIn.level != ((1 : Nat) == 1)) ≠ (line l0 1).inputs.holdIn.conditioned ∧
      ¬ debounceTicks 1 ≤ elapsedSince (line l0 1) ((line l0 1).inputs.holdIn.timer.getD (line l0 1).now) ∧
      debounceTicks 0 ≤ elapsedSince (line l0 1) ((line l0 1).inputs.holdIn.timer.getD (line l0 1).now)) := by
  decide +kernel

theorem witness_RequestGates :
    namedRequest (.wake .a 16 0) = some (.a, 5, 16, 0) ∧ ((demo .active).port .a).canTake = true ∧
    ((15 : Nat) < 16 ∧ pointerUsed ((demo .active).port .a) 15 = none) ∧
    (pointerUsed ((demo .active).port .a) 7 = some 0 ∧ ((demo .active).carrier (siteAt 0 7)).provisioned = false) ∧
    (namedRequest (.query .a 1 1) = some (.a, 10, 1, 1) ∧ pointerUsed ((demo .active).port .a) 1 = some 0 ∧
      ((demo .active).carrier (siteAt 0 1)).provisioned = true ∧ ((demo .active).carrier (siteAt 0 1)).owner = .a) := by
  decide +kernel

theorem witness_LoadSmooths :
    (((demo .active).port .a).canTake = true ∧ translate (demo .active) .a 1 = .ok 1 ∧
      ((demo .active).carrier 1).power = .active) ∧
    (((demo .waking).port .a).canTake = true ∧ translate (demo .waking) .a 1 = .ok 1 ∧
      ((demo .waking).carrier 1).power = .waking) ∧
    (((demo .draining).port .a).canTake = true ∧ translate (demo .draining) .a 1 = .ok 1 ∧
      ((demo .draining).carrier 1).power = .draining ∧ QueuesOk (demo .draining) ∧
      smooth 3 100 (16 * 1000) < 16 * (bank (demo .draining)).busyThreshold) ∧
    16 * (bank (demo .draining)).busyThreshold ≤ smooth 0 100 (16 * 300) := by
  refine ⟨⟨(demo_translates _).1, (demo_translates _).2, by decide +kernel⟩,
    ⟨(demo_translates _).1, (demo_translates _).2, by decide +kernel⟩,
    ⟨(demo_translates _).1, (demo_translates _).2, by decide +kernel, (demo_carriersOk _).2.1, by decide +kernel⟩,
    by decide +kernel⟩

theorem witness_SmoothingStaysBetween : (0 : Nat) ≤ 16000 ∧ (16000 : Nat) ≤ 16000 := by decide

theorem witness_ReportClassDrivesDwell :
    (((demo .active).port .a).canTake = true ∧ translate (demo .active) .a 1 = .ok 1 ∧
      ((demo .active).carrier 1).power = .active ∧ ((demo .active).carrier 1).role = .capacity) ∧
    (classify (bank (demo .active)) 0 (newLoad (bank (demo .active)) (cell .active)
      (effectiveLoad (bank (demo .active)) 0 0)) = .below ∧ ((demo .active).carrier 1).dwell = .absent) ∧
    (ripeSite.carrier 1).dwell ≠ .absent ∧
    classify (bank (demo .active)) 0 (newLoad (bank (demo .active)) { cell .active with stale := true }
      (effectiveLoad (bank (demo .active)) 300 0)) = .busy := by
  refine ⟨⟨(demo_translates _).1, (demo_translates _).2, by decide +kernel, by decide +kernel⟩, by decide +kernel,
    by decide +kernel, by decide +kernel⟩

/-- The small site with its anchor's next report a surge. -/
def surging : State := (demo .asleep).modCarrier 0 fun c => { c with stale := true }

theorem witness_SurgeWakesOneSleeper :
    ((surging.port .a).canTake = true ∧ translate surging .a 0 = .ok 0 ∧ (surging.carrier 0).power = .active ∧
      (surging.carrier 0).role = .coverage ∧ QueuesOk surging ∧ StackOk surging) ∧
    16 * (bank surging).surgeThreshold ≤ newLoad (bank surging) (surging.carrier 0)
      (effectiveLoad (bank surging) 700 0) ∧
    (drainingDependents surging 0 = 0 ∧ (surging.carrier 0).holdoff = none ∧ surging.stack = [] ++ 1 :: [] ∧
      0 ∈ (surging.carrier 1).anchors) ∧
    (0 < drainingDependents (demo .draining) 0 ∧ ∀ n ∈ (demo .active).stack, 0 ∉ ((demo .active).carrier n).anchors) := by
  refine ⟨⟨by decide +kernel, rfl, by decide +kernel, by decide +kernel, ?_, by decide +kernel⟩, by decide +kernel,
    by decide +kernel, by decide +kernel⟩
  simp only [QueuesOk, forall_tenant]; decide +kernel

/-- The small site after its anchor was disabled, before restoration. -/
def uncovered : State := (demo .asleep).modCarrier 0 fun _ => { anchor with power := .offline, load := none, staleTimer := none }

theorem witness_RestorationSparesTheCovered :
    CarriersOk uncovered ∧ AnchorsOk uncovered ∧ (uncovered.carrier 0).power ≠ .active ∧
    (∀ u, ∀ n ∈ (uncovered.port u).offerQueue, someAnchorFit uncovered n = true) ∧
    (dependent uncovered 0 1 = true ∧ someAnchorActive uncovered 1 = false) ∧
    ((uncovered.carrier 1).power = .asleep ∧ (uncovered.rail (uncovered.carrier 1).rail).state = .off ∧
      (uncovered.port (uncovered.carrier 1).owner).link ≠ .disabled ∧ ((demo .draining).carrier 1).power.inExchange = true ∧
      ({ uncovered with ramp := ⟨[], [], some 2⟩ }).ramp.slot ≠ none) ∧
    (CarriersOk (demo .asleep) ∧ ((demo .asleep).carrier 2).power ≠ .active ∧ dependent (demo .asleep) 2 1 = false ∧
      ((demo .asleep).carrier 1).power.sleepward = true) := by
  refine ⟨⟨by decide +kernel, ?_, by decide +kernel⟩, by decide +kernel, by decide +kernel, ?_, by decide +kernel,
    by decide +kernel, demo_carriersOk _, by decide +kernel⟩
  · simp only [QueuesOk, forall_tenant]; decide +kernel
  · simp only [forall_tenant]; decide +kernel

theorem witness_AnswersMatchOrAreRefused :
    (((demo .offered).port .a).canTake = true ∧ translate (demo .offered) .a 1 = .ok 1) ∧
    ((demo .active).carrier 1).power ≠ .offered ∧ ((demo .active).carrier 1).power ≠ .draining ∧
    ((demo .offered).carrier 1).token.toNat ≠ 8 ∧ ((demo .offered).carrier 1).power = .offered ∧
    ((demo .offered).carrier 1).token.toNat = 7 ∧ ((demo .offered).carrier 1).role = .capacity ∧
    0 ∈ ((demo .offered).carrier 1).anchors := by
  refine ⟨demo_translates _, ?_⟩
  decide +kernel

theorem witness_DrainedPutsToSleep :
    ((demo .draining).port .a).canTake = true ∧ translate (demo .draining) .a 1 = .ok 1 ∧
    ((demo .draining).carrier 1).power = .draining ∧ QueuesOk (demo .draining) ∧
    (0 ∈ ((demo .draining).carrier 1).anchors ∧ ((demo .draining).carrier 0).power = .active ∧
      ∀ n, n ≠ 1 → dependent (demo .draining) 0 n = true → ((demo .draining).carrier n).power ≠ .draining) ∧
    ((demo .offered).carrier 1).power = .offered := by
  refine ⟨(demo_translates _).1, (demo_translates _).2, by decide +kernel, (demo_carriersOk _).2.1, by decide +kernel,
    by decide +kernel⟩

theorem witness_WakeAndClearRequests :
    (∀ p, ((demo p).port .a).canTake = true ∧ translate (demo p) .a 1 = .ok 1 ∧ ((demo p).carrier 1).power = p) ∧
    (((demo .faulted).carrier 1).cause = some .tenant ∧ (railFaulted.carrier 1).cause ≠ some .tenant) ∧
    ((32 : Nat) ≤ 32 ∧ (31 : Nat) = (31 : Site).val) := by
  refine ⟨fun p => ⟨(demo_translates p).1, (demo_translates p).2, by cases p <;> decide +kernel⟩, by decide +kernel,
    by decide⟩

theorem witness_FaultTakesOutOfService :
    (∀ p, ((demo p).port .a).canTake = true ∧ translate (demo p) .a 1 = .ok 1 ∧ QueuesOk (demo p)) ∧
    ((demo .offline).carrier 1).power = .offline ∧
    (((demo .asleep).carrier 1).power ≠ .offline ∧ ((demo .asleep).carrier 1).power ≠ .faulted) := by
  refine ⟨fun p => ⟨(demo_translates p).1, (demo_translates p).2, (demo_carriersOk p).2.1⟩, by decide +kernel,
    by decide +kernel⟩

theorem witness_QueryReports :
    ((demo .offline).port .a).canTake = true ∧ translate (demo .offline) .a 1 = .ok 1 := demo_translates _

theorem witness_SetPortEffects :
    let off := onPort .offline fun p => { p with link := .disabled }
    ((2 : Nat) < 3 ∧ (1 : Nat) < 2 ∧ (60 : Nat) < 61 ∧ (4 : Nat) < 5) ∧
    ((2 : Nat) = tenantCode .c ∧ ¬ ((60 : Nat) = 1 ∨ 60 < 60 ∨ (4 : Nat) = 0 ∨ 4 < 4)) ∧
    ¬ ((0 : Nat) = 1 ∨ 60 < 0 ∨ (1 : Nat) = 0 ∨ 4 < 1) ∧
    ((off.port .a).link = .disabled ∧ (off.port .a).fifo = [] ∧ (off.carrier 1).owner = .a) ∧
    (((demo .asleep).carrier 1).owner = .a ∧ ((demo .asleep).carrier 1).power ≠ .offline) ∧
    (((demo .asleep).port .a).link ≠ .disabled ∧ ((demo .asleep).port .a).linkWindow = 0 ∧
      ((demo .asleep).port .a).drainSlots = 2) ∧ CarriersOk (demo .asleep) := by
  refine ⟨by decide, by decide, by decide, by decide +kernel, by decide +kernel, by decide +kernel, demo_carriersOk _⟩

theorem witness_LinkLossAndReturn :
    let watched := onPort .asleep fun p => { p with linkWindow := 10, windowTimer := some 0 }
    let back := onPort .active fun p =>
      { p with link := .lost, tselHigh := false, transfer := .active 128 pollFrame 0 }
    linkWindowDue (atTime 9999 watched) .a = false ∧
    (linkWindowDue (atTime 10000 watched) .a = true ∧ (watched.port .a).link = .linked) ∧ CarriersOk watched ∧
    ((back.port .a).tselHigh = false ∧ (back.port .a).transfer = .active 128 pollFrame 0 ∧ (back.port .a).link = .lost ∧
      (back.port .a).fifo = [] ∧ framePasses pollFrame = true ∧ frameByte pollFrame 1 = 0) := by
  refine ⟨by decide +kernel, by decide +kernel, ⟨by decide +kernel, ?_, by decide +kernel⟩, by decide +kernel⟩
  simp only [QueuesOk, forall_tenant]; decide +kernel

theorem witness_AckAlertRemoves :
    ((10 : Nat) < 11 ∧ ∃ k ∈ ([9, 10] : List Nat).take 2, 10 ≤ k) ∧
    ((10 : Nat) ≤ 10 ∧ ∀ k ∈ ([9, 0] : List Nat).take 10, k < 10) := by decide

theorem witness_TransfersOnTheWires :
    let shifting := fun n => onPort .active fun p =>
      { p with tselHigh := false, transfer := .active n 0 0, stallTimer := some 0, latch := some (.powered 1 1) }
    (((demo .active).port .a).tselHigh = true ∧ ((demo .active).port .a).link ≠ .disabled) ∧
    (((demo .active).port .b).tselHigh = true ∧ ((demo .active).port .b).link = .disabled) ∧
    ((shifting 126).port .a).tselHigh = false ∧ ((demo .active).port .a).transfer = .idle ∧
    (((shifting 126).port .a).link ≠ .disabled ∧ ((shifting 126).port .a).transfer = .active 126 0 0 ∧
      (126 : Nat) < 127) ∧
    (((shifting 127).port .a).transfer = .active 127 0 0 ∧ stallDue (atTime 5 (shifting 127)) .a = true) ∧
    (((shifting 128).port .a).transfer = .active 128 0 0 ∧ (127 : Nat) < 128) ∧
    stallDue (atTime 4 (shifting 127)) .a = false ∧
    ((onPort .active fun p => { p with tselHigh := false, transfer := .abandoned }).port .a).transfer = .abandoned := by
  decide +kernel

theorem witness_OutboundFramePasses : (24 : Nat) ≤ 24 := by decide

theorem witness_FrameEndOnLink :
    let full := onPort .active fun p =>
      { p with
        tselHigh := false
        transfer := .active 128 wakeFrame 0
        fifo := [⟨5, 1, 0⟩, ⟨5, 1, 0⟩]
        notices := List.replicate 8 (.reply 5 .ok 1 none none) }
    (((atFrameEnd pollFrame).port .a).tselHigh = false ∧
      ((atFrameEnd pollFrame).port .a).transfer = .active 128 pollFrame 0 ∧
      ((atFrameEnd pollFrame).port .a).link = .linked ∧ ((atFrameEnd pollFrame).port .a).latch = none) ∧
    framePasses (pollFrame + 1) = false ∧ (framePasses pollFrame = true ∧ (frameByte pollFrame 1).toNat = 0x00 ∧
      ((atFrameEnd pollFrame).port .a).fifo = []) ∧
    (framePasses resyncFrame = true ∧ (frameByte resyncFrame 1).toNat = 0x0F) ∧
    (framePasses wakeFrame = true ∧ (frameByte wakeFrame 1).toNat ≠ 0x00 ∧ (frameByte wakeFrame 1).toNat ≠ 0x0F) ∧
    ((full.port .a).overrun = false ∧ (full.port .a).fifo.length = 2 ∧ (full.port .a).replies = 8 ∧
      (full.port .a).latch = none) := by decide +kernel

theorem witness_FrameRunsItsRequest :
    (((atFrameEnd wakeFrame).port .a).tselHigh = false ∧
      ((atFrameEnd wakeFrame).port .a).transfer = .active 128 wakeFrame 0 ∧
      ((atFrameEnd wakeFrame).port .a).link = .linked ∧ ((atFrameEnd wakeFrame).port .a).fifo = [] ∧
      ((atFrameEnd wakeFrame).port .a).overrun = false ∧
      ((atFrameEnd wakeFrame).port .a).notices.countP Notice.isReply < 8 ∧ framePasses wakeFrame = true ∧
      (frameByte wakeFrame 1).toNat ≠ 0x00 ∧ (frameByte wakeFrame 1).toNat ≠ 0x0F) ∧
    (namedRequest (.wake .b 1 0) = some (.b, 5, 1, 0) ∧ ((demo .active).port .b).canTake = false) := by decide +kernel

theorem witness_SitePortBus :
    let bus := fun (txn : Txn) (buffer : List Byte) => { State.reset with
      mgmt := { Mgmt.reset 0 true with txn := txn, buffer := buffer, busTimer := some 0 } }
    (State.reset.mgmt.txn ≠ .receiving ∧ 0x51 ≠ State.reset.mgmt.address) ∧
    ((bus .receiving []).mgmt.txn = .receiving ∧ (bus .receiving (List.replicate 31 0)).mgmt.buffer.length < 32 ∧
      32 ≤ (bus .receiving (List.replicate 32 0)).mgmt.buffer.length) ∧
    (bus (.sending 0 false) []).mgmt.txn = .sending 0 false ∧ (bus (.sending 1 true) []).mgmt.txn = .sending 1 true ∧
    (bus .ignoring []).mgmt.txn = .ignoring ∧ busDue (atTime 25 (bus .receiving [])) = true ∧
    busDue (atTime 24 (bus .receiving [])) = false := by
  decide +kernel

theorem witness_SiteRecordsAreProcessed :
    let full := { State.reset with mgmt := { Mgmt.reset 0 true with txn := .receiving, buffer := [0x43, 0] } }
    (Instr.readSite.wellFormed = true ∧ encodeRecord .readSite = some [0x43, 0] ∧ full.mgmt.txn = .receiving ∧
      full.mgmt.buffer = [0x43, 0]) ∧
    (([0x43] : List Byte) ≠ [] ∧ ([0x43] : List Byte).length < 2) ∧
    (1 : Byte).toNat ≠ ([] : List Byte).length ∧
    ((0 : Byte).toNat = ([] : List Byte).length ∧ recordLength (0x45 : Byte).toNat = none) ∧
    (recordLength (0x44 : Byte).toNat = some 0 ∧ (0 : Nat) ≠ ([7] : List Byte).length) ∧ 1 < (2 : Byte).toNat := by
  decide +kernel

theorem witness_RecordRoundTrip :
    (Instr.setWindow 15 15 4095 4095).wellFormed = true ∧
    encodeRecord (.setWindow 15 15 4095 4095) = some [0x20, 4, 0xFF, 0xFF, 0xFF, 0xFF] := by decide

theorem witness_ReadRequests : (32 : Nat) ≤ 32 ∧ (4 : Nat) ≤ 4 ∧ (3 : Nat) ≤ 3 ∧
    (((demo .active).rail 1).state = .on ∧ (State.reset.rail 1).state ≠ .on ∧ (State.reset.rail 1).state ≠ .hold) := by
  decide +kernel

theorem witness_CarrierExpiries :
    let covered := (demo .active).modCarrier 1 fun c =>
      { c with staleTimer := some 0, dwell := .running 0, minAwake := .running 0 }
    let stale := fun p => (demo p).modCarrier 1 fun c => { c with staleTimer := some 0 }
    (staleDue (atTime 29999 covered) 1 = false ∧ dwellDue (atTime 899999 covered) 1 = false ∧
      minAwakeDue (atTime 1799999 covered) 1 = false ∧ answerDue (atTime 4999 (demo .offered)) 1 = false ∧
      drainDue (atTime 119999 (demo .draining)) 1 = false ∧ holdoffDue (demo .active) 0 = false) ∧
    (staleDue (atTime 30000 covered) 1 = true ∧ (covered.carrier 1).power = .active ∧
      (covered.carrier 1).role = .capacity) ∧
    (staleDue (atTime 30000 covered) 0 = true ∧ (covered.carrier 0).power = .active ∧
      (covered.carrier 0).role = .coverage ∧ dependent covered 0 1 = true ∧ QueuesOk (demo .active) ∧
      someAnchorFit ((demo .active).modCarrier 0 fun c => { c with stale := true }) 1 = false) ∧
    (staleDue (atTime 30000 (stale .offered)) 1 = true ∧ ((stale .offered).carrier 1).power = .offered ∧
      answerDue (atTime 5000 (demo .offered)) 1 = true) ∧
    (staleDue (atTime 30000 (stale .draining)) 1 = true ∧ ((stale .draining).carrier 1).power = .draining ∧
      drainDue (atTime 120000 (demo .draining)) 1 = true) ∧
    (dwellDue (atTime 900000 covered) 1 = true ∧ (covered.carrier 1).dwell = .running 0) ∧
    (minAwakeDue (atTime 1800000 covered) 1 = true ∧ (covered.carrier 1).minAwake = .running 0) ∧
    holdoffDue (atTime 120000 ((demo .active).modCarrier 0 fun c => { c with holdoff := some 0 })) 0 = true := by
  refine ⟨?_, ?_, ⟨?_, ?_, ?_, ?_, (demo_carriersOk _).2.1, ?_⟩, ?_, ?_, ?_, ?_, ?_⟩ <;> decide +kernel

/-- The small site with a command that makes carrier 1 fall asleep. -/
def aboutToSleep : State := { demo .draining with pending := [.drained .a 1 7 0] }

theorem witness_StepKeepsConfiguration :
    SettingsOk aboutToSleep ∧ AnchorsOk aboutToSleep ∧ ∃ t, step aboutToSleep = .next t :=
  ⟨demo_settingsOk .draining, demo_anchorsOk .draining, _, rfl⟩

theorem witness_StepKeepsCarriers : CarriersOk aboutToSleep ∧ ∃ t, step aboutToSleep = .next t :=
  ⟨demo_carriersOk .draining, _, rfl⟩

theorem witness_StepKeepsDrainSlots :
    CarriersOk aboutToSleep ∧ SlotsOk aboutToSleep ∧ ∃ t, step aboutToSleep = .next t :=
  ⟨demo_carriersOk .draining, demo_slotsOk .draining, _, rfl⟩

theorem witness_StepKeepsNight :
    CarriersOk aboutToSleep ∧ NightOk aboutToSleep ∧ ∃ t, step aboutToSleep = .next t :=
  ⟨demo_carriersOk .draining, demo_nightOk .draining, _, rfl⟩

theorem witness_StepKeepsCoverage :
    CarriersOk aboutToSleep ∧ AnchorsOk aboutToSleep ∧ CoverageOk aboutToSleep ∧ ∃ t, step aboutToSleep = .next t :=
  ⟨demo_carriersOk .draining, demo_anchorsOk .draining, demo_coverageOk .draining, _, rfl⟩

theorem witness_StepKeepsRamp : RampOk aboutToSleep ∧ ∃ t, step aboutToSleep = .next t :=
  ⟨demo_rampOk .draining, _, rfl⟩

theorem witness_StepKeepsPorts : PortsOk aboutToSleep ∧ ∃ t, step aboutToSleep = .next t :=
  ⟨demo_portsOk .draining, _, rfl⟩

theorem witness_StepKeepsPower :
    CarriersOk aboutToSleep ∧ RampOk aboutToSleep ∧ PowerOk aboutToSleep ∧ ∃ t, step aboutToSleep = .next t :=
  ⟨demo_carriersOk .draining, demo_rampOk .draining, demo_powerOk .draining, _, rfl⟩

theorem witness_StepKeepsRipeness :
    CarriersOk aboutToSleep ∧ AnchorsOk aboutToSleep ∧ RipeOk aboutToSleep ∧ ∃ t, step aboutToSleep = .next t :=
  ⟨demo_carriersOk .draining, demo_anchorsOk .draining, demo_ripeOk .draining, _, rfl⟩

end Sys2Proof.Tests
end

/-! # What a step can do

Every command is a run of elementary changes: the moves of a cascade (`Move`), and the changes that commands make
besides, each with what holds when a command makes it. A property that every change keeps is kept by every step. -/

section

namespace Sys2Proof.Machine

/-! ### Parts of the settings law -/

/-- The windows and the time of day within R41 and R131. -/
abbrev ClockOk (c : Clock) : Prop :=
  (∀ w : Fin 2, c.windows[w].start ≤ 1439 ∧ c.windows[w].stop ≤ 1439) ∧ c.tod < 86400 ∧ c.subTicks < 1000

/-- Both banks within R138 and R139. -/
abbrev BanksOk (b : Banks) : Prop := ∀ k : Fin 2, BankOk b.bank[k]

/-- The address and the record buffer within R176 and R178. -/
abbrev MgmtOk (m : Mgmt) : Prop := (0x50 ≤ m.address ∧ m.address ≤ 0x57) ∧ m.buffer.length ≤ 32

/-- What R13 demands of the values that a SET_CARRIER writes into record i. -/
structure Provisionable (s : State) (i : Site) (owner : Tenant) (role : Role) (anchors : List Site) (trim : Int) :
    Prop where
  idle : (s.carrier i).provisioned = true → (s.carrier i).power = .offline
  coverage : role = .coverage → anchors = []
  nodup : anchors.Nodup
  length : anchors.length ≤ 3
  trim : -8 ≤ trim ∧ trim ≤ 7
  anchors : ∀ x ∈ anchors, x ≠ i ∧ (s.carrier x).provisioned = true ∧ (s.carrier x).role = .coverage ∧
    (s.carrier x).owner = owner
  dependents : ∀ m, m ≠ i → (s.carrier m).provisioned = true → i ∈ (s.carrier m).anchors →
    role = .coverage ∧ owner = (s.carrier i).owner

/-- A record right after a taken DRAINED (R67). -/
def Carrier.slept (c : Carrier) : Carrier :=
  { c with power := .asleep, answerTimer := none, drainTimer := none, staleTimer := none }

/-- The state from which a power-on reset lets the input lines be looked at (log entry 8). -/
def resetState (addr : Nat) (s : State) : State :=
  { State.reset with
    inputs := ⟨Line.reset s.inputs.holdIn.level, Line.reset s.inputs.sourceIn.level, 1, false⟩
    rails := #v[Rail.reset (s.rail 0).powerGood, Rail.reset (s.rail 1).powerGood,
      Rail.reset (s.rail 2).powerGood, Rail.reset (s.rail 3).powerGood]
    ports := ⟨Port.reset s.ports.a.tselHigh, Port.reset s.ports.b.tselHigh, Port.reset s.ports.c.tselHigh⟩
    mgmt := Mgmt.reset addr s.mgmt.sclHigh
    envReads := s.envReads
    pending := s.pending }

theorem powerOnReset_eq (addr : Nat) (s : State) :
    powerOnReset addr s = recheckLine .sourceIn (recheckLine .holdIn (resetState addr s)) := rfl

/-! ### The changes -/

/-- Every elementary change of a step. -/
inductive Act (s : State) : State → Prop where
  | move {t : State} (h : Move s t) : Act s t
  | clock (c : Clock) (h : ClockOk s.clock → ClockOk c) : Act s { s with clock := c }
  | inputs (i : Inputs) : Act s { s with inputs := i }
  | banks (b : Banks) (h : BanksOk s.banks → BanksOk b) : Act s { s with banks := b }
  | alerts (a : Vector Bool 10) : Act s { s with alerts := a }
  | mgmt (m : Mgmt) (h : MgmtOk s.mgmt → MgmtOk m) : Act s { s with mgmt := m }
  | envReads (k : Nat) : Act s { s with envReads := k }
  | pending (l : List Instr) : Act s { s with pending := l }
  | ramp (q : Ramp) : Act s { s with ramp := q }
  | rail (r : RailId) (f : Rail → Rail) (h : ∀ x, RailSettingsOk x → RailSettingsOk (f x)) : Act s (s.modRail r f)
  /-- A port changes; its offer queue stays or is emptied. -/
  | port (t : Tenant) (f : Port → Port) (h : ∀ p, PortSettingsOk p → PortSettingsOk (f p))
      (hq : ∀ p, (f p).offerQueue = p.offerQueue ∨ (f p).offerQueue = []) : Act s (s.modPort t f)
  /-- A taken SET_CARRIER. -/
  | provisions (i : Site) (owner : Tenant) (role : Role) (rail : RailId) (anchors : List Site) (trim : Int)
      (h : Provisionable s i owner role anchors trim) : Act s (writeCarrier i owner role rail anchors trim s)
  /-- A taken CLEAR_CARRIER. -/
  | clears (i : Site) (h : (s.carrier i).power = .offline)
      (hd : ∀ m, m ≠ i → (s.carrier m).provisioned = true → i ∉ (s.carrier m).anchors) :
      Act s (s.modCarrier i fun c =>
        { c with provisioned := false, owner := .a, role := .coverage, rail := 0, anchors := [], trim := 0 })
  /-- A pin source is added to a carrier that is not OFFLINE, or removed. -/
  | pins (n : Site) (src : PinSource) (v : Bool) (h : (s.carrier n).power = .offline → v = false) :
      Act s (s.modCarrier n fun c => { c with pins := c.pins.put src v })
  /-- A taken ENABLE. -/
  | enables (n : Site) (p : PinSet) (hp : (s.carrier n).provisioned = true) (h : (s.carrier n).power = .offline) :
      Act s (s.modCarrier n fun c => { c with pins := p, power := .waking, cause := none })
  /-- A FAULTED carrier is cleared. -/
  | recovers (n : Site) (h : (s.carrier n).power = .faulted) :
      Act s (s.modCarrier n fun c => { c with power := .waking, cause := none })
  /-- The estimator's part of a taken LOAD. -/
  | reports (n : Site) (load : Nat)
      (h : (s.carrier n).power = .active ∨ (s.carrier n).power = .offered ∨ (s.carrier n).power = .draining)
      (hl : (∀ v ∈ (s.carrier n).load, v ≤ 16000) → load ≤ 16000) : Act s (takeReport n load s)
  /-- The scheduler's part of a taken LOAD. -/
  | dwell (n : Site) (d : Dwell)
      (h : d = (s.carrier n).dwell ∨ (s.carrier n).role = .capacity ∧ (s.carrier n).power = .active) :
      Act s (s.modCarrier n fun c => { c with dwell := d })
  /-- A taken ACCEPT. -/
  | drains (n : Site) (h : (s.carrier n).power = .offered) : Act s (startDrain n s)
  /-- A taken DRAINED, before what follows from it. -/
  | sleeps (n : Site) (h : (s.carrier n).power.inExchange = true) :
      Act s { s.modCarrier n Carrier.slept with stack := n :: s.stack }
  /-- A DISABLE, before its notice and what follows from it. -/
  | disables (n : Site) (h : (s.carrier n).power ≠ .offline) :
      Act s { (unqueue n s).modCarrier n Carrier.disabled with stack := s.stack.filter (· != n) }
  | holdoff (x : Site) (v : Option Time) : Act s (s.modCarrier x fun c => { c with holdoff := v })
  | resets (addr : Nat) : Act s (resetState addr s)

/-- A run of elementary changes. -/
abbrev Acts : State → State → Prop := Relation.ReflTransGen Act

theorem Act.run {s t : State} (h : Act s t) : Acts s t := .single h

theorem Moves.acts {s t : State} (h : Moves s t) : Acts s t :=
  Relation.ReflTransGen.mono (p := Act) (fun _ _ hh => Act.move hh) _ _ h

theorem Eases.acts {s t : State} (h : Eases s t) : Acts s t := h.moves.acts

/-- A property that every elementary change keeps is kept by a run of them. -/
theorem Acts.keeps {P : State → Prop} (hP : ∀ s t, Act s t → P s → P t) {s t : State} (h : Acts s t) (hs : P s) :
    P t := by
  induction h with
  | refl => exact hs
  | tail _ h ih => exact hP _ _ h ih

theorem forList_acts {α : Type} (f : α → State → State) (hf : ∀ x s, Acts s (f x s)) (l : List α) (s : State) :
    Acts s (forList l f s) :=
  forList_induction (fun u => Acts s u) f (fun x u h => h.trans (hf x u)) l s .refl

/-- A change made on a condition. -/
theorem ite_acts {s t : State} (c : Prop) [Decidable c] (h : c → Acts s t) : Acts s (if c then t else s) := by
  split
  · rename_i hc; exact h hc
  · exact .refl

/-- What the settings law and the offer queues show of a port. -/
def Port.settings (p : Port) : Nat × Nat × List Site := (p.linkWindow, p.drainSlots, p.offerQueue)

/-- What the settings law shows of a rail. -/
def Rail.settings (x : Rail) : Nat × Nat × Nat × Nat × Nat × Nat :=
  (x.idlePower, x.breakEven, x.settleFull, x.settleReduced, x.offSeconds, x.rampCount)

theorem port_acts (t : Tenant) (f : Port → Port) (s : State) (h : ∀ p, (f p).settings = p.settings) :
    Acts s (s.modPort t f) := by
  simp only [Port.settings, Prod.mk.injEq] at h
  refine (Act.port t f (fun p hp => ?_) (fun p => .inl ?_)).run <;> obtain ⟨hw, hs, hq⟩ := h p
  · simpa only [PortSettingsOk, hw, hs] using hp
  · exact hq

theorem rail_acts (r : RailId) (f : Rail → Rail) (s : State) (h : ∀ x, (f x).settings = x.settings) :
    Acts s (s.modRail r f) := by
  simp only [Rail.settings, Prod.mk.injEq] at h
  refine (Act.rail r f fun x hx => ?_).run
  obtain ⟨hi, hb, hf, hr, ho, hc⟩ := h x
  simpa only [RailSettingsOk, hi, hb, hf, hr, ho, hc] using hx

theorem post_acts (t : Tenant) (x : Notice) (s : State) : Acts s (post t x s) :=
  port_acts t _ s fun p => by split <;> rfl

/-- A rule that takes a request answers the state that it made. -/
@[simp] theorem answerOk_fst (s : State) : (answerOk s).1 = s := rfl

/-! ### Rails -/

theorem satSucc_le {top v : Nat} (h : v ≤ top) : satSucc top v ≤ top := by
  rw [satSucc]; split <;> omega

/-- A grant raises only the rail's ramp count, which stays in its range. -/
theorem grantTo_acts (r : RailId) (s : State) : Acts s (grantTo r s) := by
  refine ((Act.ramp _).run.trans (Act.rail (s := leaveRamp r s) r _ fun x hx => ?_).run).trans (Act.ramp _).run
  obtain ⟨hi, hb, hf, hr, ho, hc⟩ := hx
  exact ⟨hi, hb, hf, hr, ho, satSucc_le hc⟩

theorem grant_acts (s : State) : Acts s (grant s) := by
  rcases grant_cases s with ⟨r, _, _, _, h⟩ | ⟨h, _⟩
  · rw [h]; exact grantTo_acts r s
  · rw [h]

theorem releaseSlot_acts (s : State) : Acts s (releaseSlot s) := (Act.ramp _).run.trans (grant_acts _)

theorem joinRamp_acts (r : RailId) (cls : RampClass) (s : State) : Acts s (joinRamp r cls s) := by
  cases cls <;> exact (Act.ramp _).run

theorem queueRail_acts (r : RailId) (cls : RampClass) (s : State) : Acts s (queueRail r cls s) :=
  ((rail_acts r _ s fun _ => by rfl).trans (joinRamp_acts r cls _)).trans (grant_acts _)

theorem graceTest_acts (r : RailId) (s : State) : Acts s (graceTest r s) := by
  have stop : Acts s (s.modRail r fun x => { x with graceTimer := none }) :=
    rail_acts r _ s fun _ => by rfl
  rw [graceTest]
  split
  · exact stop.trans (rail_acts r _ _ fun _ => by rfl)
  · split <;> exact stop.trans (rail_acts r _ _ fun _ => by rfl)

theorem enterHold_acts (r : RailId) (s : State) : Acts s (enterHold r s) := by
  have hold : Acts s (s.modRail r fun x => { x with state := .hold, graceTimer := some s.now, held := false }) :=
    rail_acts r _ s fun _ => by rfl
  rw [enterHold]
  split
  · exact hold.trans (graceTest_acts r _)
  · exact hold

theorem addAlert_acts (code : Fin 10) (s : State) : Acts s (addAlert code s) := (Act.alerts _).run

theorem enterFault_acts (r : RailId) (s : State) : Acts s (enterFault r s) :=
  ((rail_acts r _ s fun _ => by rfl).trans (addAlert_acts _ _)).trans (enterFault_moves r s).acts

theorem tellPowerGood_acts (r : RailId) (level : Bool) (s : State) : Acts s (tellPowerGood r level s) :=
  rail_acts r _ s fun _ => by rfl

theorem rampSucceeds_acts (r : RailId) (s : State) : Acts s (rampSucceeds r s) := by
  have stop : Acts s (s.modRail r fun x => { x with settleTimer := none, retry := false }) :=
    rail_acts r _ s fun _ => by rfl
  rw [rampSucceeds]
  refine (stop.trans ?_).trans (releaseSlot_acts _)
  split
  · exact enterHold_acts r _
  · exact (rail_acts r _ _ fun _ => by rfl).trans (powerCarriers_eases r _).acts

theorem rampFails_acts (r : RailId) (s : State) : Acts s (rampFails r s) := by
  rw [rampFails]
  split
  · exact (enterFault_acts r s).trans (releaseSlot_acts _)
  · exact (rail_acts r _ s fun _ => by rfl).trans (releaseSlot_acts _)

theorem settleExpires_acts (r : RailId) (level : Bool) (s : State) : Acts s (settleExpires r level s) := by
  rw [settleExpires]
  refine (tellPowerGood_acts r (sampledPowerGood s r level) s).trans ?_
  split
  · split
    · exact rampSucceeds_acts r _
    · exact rampFails_acts r _
  · exact rail_acts r _ _ fun _ => by rfl

theorem retryExpires_acts (r : RailId) (s : State) : Acts s (retryExpires r s) := by
  rw [retryExpires]
  refine (rail_acts r (fun x => { x with retryTimer := none }) s fun _ => by rfl).trans ?_
  refine ite_acts _ fun _ => ?_
  split
  · exact rail_acts r _ _ fun _ => by rfl
  · exact queueRail_acts r _ _

theorem powerFalls_acts (r : RailId) (s : State) : Acts s (powerFalls r s) :=
  (tellPowerGood_acts r false s).trans (ite_acts _ fun _ => enterFault_acts r _)

theorem setRailRule_acts (rail idle even full reduced : Nat) (s : State) :
    Acts s (setRailRule rail idle even full reduced s).1 := by
  rw [setRailRule]
  split
  · exact .refl
  · split
    · rename_i r _ h
      simp only [Bool.and_eq_true, decide_eq_true_eq] at h
      obtain ⟨⟨⟨⟨⟨hi, he⟩, hf⟩, hf'⟩, hr⟩, hr'⟩ := h
      rw [answerOk_fst]
      refine (Act.rail r _ fun x hx => ?_).run
      obtain ⟨-, -, -, -, ho, hc⟩ := hx
      exact ⟨hi, he, ⟨hf, hf'⟩, ⟨hr, hr'⟩, ho, hc⟩
    · exact .refl

theorem setBiasRule_acts (rail cls : Nat) (s : State) : Acts s (setBiasRule rail cls s).1 := by
  rw [setBiasRule]
  split
  · exact .refl
  · split
    · exact .refl
    · rw [answerOk_fst]
      exact rail_acts _ _ s fun x => by rw [Rail.setBias]; split <;> rfl

theorem clearTally_acts (r : RailId) (s : State) : Acts s (s.modRail r Rail.clearTally) :=
  (Act.rail r Rail.clearTally fun _ ⟨hi, hb, hf, hr, _, _⟩ => ⟨hi, hb, hf, hr, Nat.zero_le _, Nat.zero_le _⟩).run

theorem clearTallyRule_acts (rail : Nat) (s : State) : Acts s (clearTallyRule rail s).1 := by
  rw [clearTallyRule]
  split
  · exact forList_acts _ clearTally_acts _ s
  · split
    · exact .refl
    · exact clearTally_acts _ s

/-! ### Carriers -/

theorem clearable_iff (s : State) (n : Site) :
    clearable s n = true ↔ (s.carrier n).power = .faulted ∧ (s.carrier n).cause = some .tenant := by
  simp [clearable]

theorem enterWaking_acts_of_faulted (n : Site) (cls : RampClass) (s : State) (h : (s.carrier n).power = .faulted) :
    Acts s (enterWaking n cls s) :=
  (Act.recovers n h).run.trans (enterWaking_moves n cls s).acts

theorem clearFaultRailRule_acts (rail : Nat) (s : State) : Acts s (clearFaultRailRule rail s).1 := by
  rw [clearFaultRailRule]
  split
  · exact .refl
  · split
    · exact .refl
    · rw [answerOk_fst]
      refine (rail_acts _ _ s fun _ => by rfl).trans (forList_acts _ (fun n u => ?_) _ _)
      refine ite_acts _ fun h => ?_
      simp only [Bool.and_eq_true, beq_iff_eq] at h
      exact enterWaking_acts_of_faulted n .urgent u h.1.2

theorem clearFaultCarrierRule_acts (n : Nat) (s : State) : Acts s (clearFaultCarrierRule n s).1 := by
  rw [clearFaultCarrierRule]
  split
  · exact .refl
  · split
    · rename_i i _ h
      exact enterWaking_acts_of_faulted i .ordinary s ((clearable_iff s i).1 h).1
    · exact .refl

/-- A number names a provisioned record exactly when it is the record's own (R12). -/
theorem provisionedSite_eq_some {s : State} {n : Nat} {i : Site} :
    provisionedSite s n = some i ↔ n = i.val ∧ (s.carrier i).provisioned = true := by
  simp only [provisionedSite, siteOf, Option.filter_eq_some_iff]
  constructor
  · rintro ⟨h, hp⟩
    split at h
    · cases h; exact ⟨rfl, hp⟩
    · cases h
  · rintro ⟨rfl, hp⟩
    exact ⟨by simp, hp⟩

theorem listedByOther_iff (s : State) (n : Site) :
    listedByOther s n = true ↔ ∃ m, m ≠ n ∧ (s.carrier m).provisioned = true ∧ n ∈ (s.carrier m).anchors := by
  simp [listedByOther, mem_allSites, and_assoc]

theorem siteOf_eq_some {n : Nat} {i : Site} : siteOf n = some i ↔ n = i.val := by
  simp only [siteOf]
  constructor
  · intro h
    split at h
    · cases h; rfl
    · cases h
  · rintro rfl; simp

theorem anchorFits_iff (s : State) (n : Site) (owner : Tenant) (a : Nat) :
    anchorFits s n owner a = true ↔ ∃ x : Site, a = x.val ∧ x ≠ n ∧ (s.carrier x).provisioned = true ∧
      (s.carrier x).role = .coverage ∧ (s.carrier x).owner = owner := by
  rw [anchorFits]
  split
  · rename_i h
    simp only [Bool.false_eq_true, false_iff, not_exists]
    rintro x ⟨hx, -⟩
    rw [siteOf_eq_some.2 hx] at h; cases h
  · rename_i x h
    rw [siteOf_eq_some] at h
    subst h
    simp only [Bool.and_eq_true, bne_iff_ne, beq_iff_eq, and_assoc]
    exact ⟨fun h => ⟨x, rfl, h⟩, fun ⟨y, hy, h⟩ => (Fin.ext hy : x = y) ▸ h⟩

/-- A list of site numbers is the list of the sites it names. -/
theorem map_val_anchorSites {l : List Nat} (h : ∀ a ∈ l, ∃ x : Site, a = x.val) :
    (anchorSites l).map Fin.val = l := by
  induction l with
  | nil => rfl
  | cons a l ih =>
    obtain ⟨x, rfl⟩ := h a List.mem_cons_self
    have hx : siteOf x.val = some x := siteOf_eq_some.2 rfl
    simp only [anchorSites, List.filterMap_cons, hx, List.map_cons]
    exact congrArg _ (ih fun b hb => h b (List.mem_cons_of_mem _ hb))

/-- The anchor conditions of R13 step 3, on the sites named. -/
theorem anchorsFit_iff (s : State) (n : Site) (owner : Tenant) (role : Role) (l : List Nat) :
    anchorsFit s n owner role l = true ↔ (role = .coverage → l = []) ∧
      (role = .capacity → l.Nodup ∧ ∀ a ∈ l, anchorFits s n owner a = true) := by
  cases role <;> simp [anchorsFit, and_comm]

theorem dependentsKept_iff (s : State) (n : Site) (owner : Tenant) (role : Role) :
    dependentsKept s n owner role = true ↔
      ((∃ m, m ≠ n ∧ (s.carrier m).provisioned = true ∧ n ∈ (s.carrier m).anchors) →
        role = .coverage ∧ owner = (s.carrier n).owner) := by
  rw [← listedByOther_iff, dependentsKept]
  cases listedByOther s n <;> cases role <;> simp

theorem mem_anchorSites {x : Site} {l : List Nat} : x ∈ anchorSites l ↔ x.val ∈ l := by
  simp [anchorSites, siteOf_eq_some]

/-- The checks of R13 demand what the anchor law and the records need. -/
theorem provisionable_of_checks {s : State} {i : Site} {t : Tenant} {role : Role} {l : List Nat} {trim : Int}
    (hidle : ¬ ((s.carrier i).provisioned && (s.carrier i).power != .offline) = true) (hlen : l.length ≤ 3)
    (htrim : -8 ≤ trim ∧ trim ≤ 7) (hfit : anchorsFit s i t role l = true) (hdep : dependentsKept s i t role = true) :
    Provisionable s i t role (anchorSites l) trim := by
  rw [anchorsFit_iff] at hfit
  rw [dependentsKept_iff] at hdep
  have hanchors : l.Nodup ∧ ∀ a ∈ l, anchorFits s i t a = true := by
    cases role with
    | coverage => rw [hfit.1 rfl]; simp
    | capacity => exact hfit.2 rfl
  have hmap : (anchorSites l).map Fin.val = l := map_val_anchorSites fun a ha => by
    obtain ⟨x, hx, -⟩ := (anchorFits_iff s i t a).1 (hanchors.2 a ha)
    exact ⟨x, hx⟩
  refine ⟨?_, ?_, ?_, ?_, htrim, ?_, fun m hm hp hl => hdep ⟨m, hm, hp, hl⟩⟩
  · simpa using hidle
  · intro hrole
    rw [hfit.1 hrole]
    rfl
  · exact .of_map _ (hmap.symm ▸ hanchors.1)
  · have := congrArg List.length hmap
    rw [List.length_map] at this
    omega
  · intro x hx
    obtain ⟨y, hy, h⟩ := (anchorFits_iff s i t x.val).1 (hanchors.2 _ (mem_anchorSites.1 hx))
    obtain rfl := Fin.ext hy
    exact h

theorem setCarrierRule_acts (n owner role rail count a0 a1 a2 : Nat) (trim : Int) (s : State) :
    Acts s (setCarrierRule n owner role rail count a0 a1 a2 trim s).1 := by
  rw [setCarrierRule]
  split
  · exact .refl
  · split
    · exact .refl
    · rename_i i _ hidle
      split
      · dsimp only
        split
        · rename_i h
          simp only [Bool.and_eq_true, decide_eq_true_eq] at h
          obtain ⟨⟨⟨-, htrim⟩, hfit⟩, hdep⟩ := h
          exact (Act.provisions i _ _ _ _ trim
            (provisionable_of_checks hidle (List.length_take_le' _ _) htrim hfit hdep)).run
        · exact .refl
      · exact .refl

theorem clearCarrierRule_acts (n : Nat) (s : State) : Acts s (clearCarrierRule n s).1 := by
  rw [clearCarrierRule]
  split
  · exact .refl
  · split
    · exact .refl
    · rename_i i _ hp
      split
      · exact .refl
      · rename_i hl
        rw [listedByOther_iff] at hl
        exact (Act.clears i (by simpa using hp) fun m hm hpm hmem => hl ⟨m, hm, hpm, hmem⟩).run

/-- An update that does not change the record does not change the state. -/
theorem modCarrier_eq_self {s : State} {n : Site} {f : Carrier → Carrier} (h : f (s.carrier n) = s.carrier n) :
    s.modCarrier n f = s := by
  rw [State.carrier] at h
  cases s
  simp [State.modCarrier, h]

/-- An update depends only on what it makes of the record. -/
theorem modCarrier_congr {s : State} {n : Site} {f g : Carrier → Carrier} (h : f (s.carrier n) = g (s.carrier n)) :
    s.modCarrier n f = s.modCarrier n g := by
  rw [State.carrier] at h
  simp only [State.modCarrier, h]

/-- The LINK pin of an ENABLE and the entry to WAKING are one change of the record. -/
theorem enablePins_eq (s : State) (n : Site) : ∃ p, enablePins s n = s.modCarrier n fun c => { c with pins := p } := by
  rw [enablePins]
  split
  · exact ⟨(s.carrier n).pins, (modCarrier_eq_self rfl).symm⟩
  · exact ⟨(s.carrier n).pins.put .link true, modCarrier_congr rfl⟩

theorem enableRule_acts (n : Nat) (s : State) : Acts s (enableRule n s).1 := by
  rw [enableRule]
  split
  · exact .refl
  · rename_i i hi
    obtain ⟨-, hprov⟩ := provisionedSite_eq_some.1 hi
    dsimp only
    split
    · exact .refl
    · rename_i hp
      split
      · exact .refl
      · split
        · exact .refl
        · obtain ⟨p, hpins⟩ := enablePins_eq s i
          have enter := enterWaking_moves i .ordinary (enablePins s i)
          rw [hpins, modCarrier_modCarrier, ← hpins] at enter
          exact (Act.enables i p hprov (by simpa using hp)).run.trans enter.acts

theorem disableCarrier_acts (n : Site) (s : State) (h : (s.carrier n).power ≠ .offline) :
    Acts s (disableCarrier n s) :=
  ((Act.disables n h).run.trans (post_acts _ _ _)).trans (disableCarrier_moves n s).acts

theorem disableRule_acts (n : Nat) (s : State) : Acts s (disableRule n s).1 := by
  rw [disableRule]
  split
  · exact .refl
  · split
    · exact .refl
    · rename_i i _ h
      exact disableCarrier_acts i s (by simpa using h)

theorem addPin_acts (src : PinSource) (n : Site) (s : State) (h : (s.carrier n).power ≠ .offline) :
    Acts s (addPin src n s) := by
  cases hp : (s.carrier n).pins.has src with
  | true => rw [addPin_present src n s hp]
  | false => exact (Act.pins n src true fun ho => absurd ho h).run.trans (addPin_moves src n s hp).acts

theorem removePin_acts (src : PinSource) (n : Site) (s : State) : Acts s (removePin src n s) := by
  cases hp : (s.carrier n).pins.has src with
  | true => exact (Act.pins n src false fun _ => rfl).run.trans (removePin_eases src n s hp).acts
  | false => rw [removePin_absent src n s hp]

theorem pinRule_acts (n : Nat) (s : State) : Acts s (pinRule n s).1 := by
  rw [pinRule]
  split
  · exact .refl
  · split
    · exact .refl
    · rename_i i _ h
      exact addPin_acts .site i s (by simpa using h)

theorem unpinRule_acts (n : Nat) (s : State) : Acts s (unpinRule n s).1 := by
  rw [unpinRule]
  split
  · exact .refl
  · split
    · exact .refl
    · exact removePin_acts .site _ s

theorem setSlicesRule_acts (tenant p0 p1 : Nat) (s : State) : Acts s (setSlicesRule tenant p0 p1 s).1 := by
  rw [setSlicesRule]
  split
  · split
    · exact .refl
    · split
      · exact .refl
      · rw [answerOk_fst]
        exact port_acts _ _ s fun _ => by rfl
  · exact .refl

/-! ### Clock, lines and banks -/

theorem getElem_set_ok {α : Type} {P : α → Prop} {k : Nat} (v : Vector α k) (i : Nat) (hi : i < k) (x : α)
    (hv : ∀ j : Fin k, P v[j]) (hx : P x) (j : Fin k) : P (v.set i x)[j] := by
  simp only [Fin.getElem_fin, Vector.getElem_set]
  split
  · exact hx
  · exact hv j

theorem setWindowRule_acts (window enabled start stop : Nat) (s : State) :
    Acts s (setWindowRule window enabled start stop s).1 := by
  rw [setWindowRule]
  split
  · rename_i hw
    split
    · exact .refl
    · split
      · rename_i h
        simp only [Bool.and_eq_true, decide_eq_true_eq] at h
        refine (Act.clock _ fun ⟨hwin, htod, hsub⟩ => ⟨?_, htod, hsub⟩).run.trans (renight_moves _ _ _).acts
        exact getElem_set_ok (P := fun w : Window => w.start ≤ 1439 ∧ w.stop ≤ 1439) _ _ hw _ hwin h
      · exact .refl
  · exact .refl

theorem setTimeRule_acts (tod : Nat) (s : State) : Acts s (setTimeRule tod s).1 := by
  rw [setTimeRule]
  split
  · rename_i h
    exact (Act.clock _ fun ⟨hwin, _, hsub⟩ => ⟨hwin, h, hsub⟩).run.trans (renight_moves _ _ _).acts
  · exact .refl

theorem setDividerRule_acts (divider : Nat) (s : State) : Acts s (setDividerRule divider s).1 := by
  rw [setDividerRule, answerOk_fst]
  exact (Act.clock _ fun h => by exact h).run

theorem debounceExpires_acts (line : InputLine) (s : State) : Acts s (debounceExpires line s) :=
  ((Act.inputs _).run.trans (renight_moves _ _ _).acts).trans (rebank_moves _ _).acts

theorem recheckLine_acts (line : InputLine) (s : State) : Acts s (recheckLine line s) :=
  (Act.inputs _).run.trans (ite_acts _ fun _ => debounceExpires_acts line _)

theorem setInputsRule_acts (hold source debounce : Nat) (s : State) :
    Acts s (setInputsRule hold source debounce s).1 := by
  rw [setInputsRule]
  split
  · exact ((Act.inputs _).run.trans (recheckLine_acts _ _)).trans (recheckLine_acts _ _)
  · exact .refl

/-- A parameter in its range, with the thresholds in order, keeps the bank in its ranges. -/
theorem withParam_ok {b : Bank} {code v : Nat} (hb : BankOk b) (hc : code < 12) (hlo : (paramRange code).1 ≤ v)
    (hhi : v ≤ (paramRange code).2) (hord : thresholdsOrdered b code v = true) : BankOk (b.withParam code v) := by
  obtain ⟨h0, h1, h2, h3, h4, h5, h6, h7, h8, h9, h10, h11, h12⟩ := hb
  interval_cases code <;>
    simp only [thresholdsOrdered, decide_eq_true_eq, paramRange] at hord hlo hhi <;>
    simp only [BankOk, Bank.withParam] <;> omega

theorem writeParam_acts (b : Fin 2) (code v : Nat) (s : State)
    (h : BankOk s.banks.bank[b] → BankOk (s.banks.bank[b].withParam code v)) : Acts s (writeParam b code v s) := by
  rw [writeParam]
  have write := (Act.banks (s := s)
    { s.banks with bank := s.banks.bank.set b.val (s.banks.bank[b.val].withParam code v) }
    fun hb => getElem_set_ok _ _ b.isLt _ hb (h (hb b))).run
  dsimp only
  split
  · exact write.trans (endPeriods_moves _ _).acts
  · exact write

theorem setBankParamRule_acts (bk code v : Nat) (s : State) : Acts s (setBankParamRule bk code v s).1 := by
  rw [setBankParamRule]
  split
  · split
    · exact .refl
    · rename_i hc
      split
      · exact .refl
      · rename_i hr
        simp only [Bool.or_eq_true, decide_eq_true_eq, not_or, Nat.not_lt] at hr
        split
        · exact .refl
        · rename_i ho
          exact writeParam_acts _ _ _ _ fun hb => withParam_ok hb (Nat.not_le.1 hc) hr.1 hr.2 (by simpa using ho)
  · exact .refl

theorem selectBankRule_acts (mode : Nat) (s : State) : Acts s (selectBankRule mode s).1 := by
  rw [selectBankRule]
  split
  · exact .refl
  · exact (Act.banks _ fun h => by exact h).run.trans (rebank_moves _ _).acts

theorem writeStandDown_acts (v : Bool) (s : State) : Acts s (writeStandDown v s) :=
  (Act.inputs _).run.trans (renight_moves _ _ _).acts

theorem tallySecond_acts (r : RailId) (s : State) : Acts s (s.modRail r Rail.tallySecond) := by
  refine (Act.rail r Rail.tallySecond fun x hx => ?_).run
  obtain ⟨hi, hb, hf, hr, ho, hc⟩ := hx
  rw [Rail.tallySecond]
  split
  · exact ⟨hi, hb, hf, hr, satSucc_le ho, hc⟩
  · exact ⟨hi, hb, hf, hr, ho, hc⟩

theorem endSecond_ok {c : Clock} (h : ClockOk c) : ClockOk c.endSecond := by
  refine ⟨h.1, ?_, Nat.zero_lt_succ _⟩
  simp only [Clock.endSecond]
  split <;> omega

theorem secondPasses_acts (s : State) : Acts s (secondPasses s) :=
  ((Act.clock _ endSecond_ok).run.trans (forList_acts _ tallySecond_acts _ _)).trans (renight_moves _ _ _).acts

theorem idleTick_acts (s : State) (h : s.clock.subTicks + 1 < 1000) : Acts s (idleTick s) :=
  (Act.clock _ fun ⟨hwin, htod, _⟩ => ⟨hwin, htod, h⟩).run

/-! ### Tenant requests -/

theorem effectiveLoad_le (b : Bank) (util users : Nat) : effectiveLoad b util users ≤ 1000 := min_le_left _ _

/-- A smoothing step stays between the old S and its target (R27). -/
theorem smooth_le {k old target top : Nat} (ho : old ≤ top) (ht : target ≤ top) : smooth k old target ≤ top := by
  have hk : (0 : Int) < 2 ^ k := by positivity
  have hstep : Int.tdiv ((target : Int) - old) (2 ^ k) ≤ max 0 ((target : Int) - old) :=
    (Int.tdiv_le_tdiv hk (le_max_right _ _)).trans (Int.tdiv_le_self _ (le_max_left _ _))
  rw [smooth]
  omega

theorem newLoad_le {b : Bank} {c : Carrier} {level : Nat} (hl : level ≤ 1000) (hc : ∀ v ∈ c.load, v ≤ 16000) :
    newLoad b c level ≤ 16000 := by
  rw [newLoad]
  split
  · omega
  · rename_i old h
    split
    · omega
    · exact smooth_le (hc old h) (by omega)

theorem dwellAfter_eq (c : Carrier) (cls : LoadClass) (now : Time) :
    dwellAfter c cls now = c.dwell ∨ c.role = .capacity ∧ c.power = .active := by
  by_cases h : (c.role == .capacity && c.power == .active) = true
  · exact .inr (by simpa using h)
  · exact .inl (by rw [dwellAfter.eq_def, if_neg h])

theorem scheduleReport_acts (n : Site) (before : Carrier) (cls : LoadClass) (s : State)
    (hd : before.dwell = (s.carrier n).dwell) (hr : before.role = (s.carrier n).role)
    (hp : before.power = (s.carrier n).power) : Acts s (scheduleReport n before cls s) := by
  have dwell : Acts s (s.modCarrier n fun c => { c with dwell := dwellAfter before cls s.now }) :=
    (Act.dwell n _ (by simpa only [hd, hr, hp] using dwellAfter_eq before cls s.now)).run
  rw [scheduleReport]
  dsimp only
  split
  · refine (dwell.trans (reeval_eases n _).acts).trans ?_
    exact ite_acts _ fun _ => (reevalDependents_eases n _).acts
  · exact dwell

theorem surge_acts (x : Site) (s : State) : Acts s (surge x s) := by
  rw [surge]
  split
  · exact .refl
  · split
    · exact .refl
    · split
      · exact .refl
      · exact (wakeCarrier_moves _ .ordinary s).acts.trans (Act.holdoff x _).run

theorem report_acts (n : Site) (util users : Nat) (s : State)
    (h : (s.carrier n).power = .active ∨ (s.carrier n).power = .offered ∨ (s.carrier n).power = .draining) :
    Acts s (report n util users s) := by
  rw [report]
  refine Relation.ReflTransGen.trans ?_ (ite_acts _ fun _ => surge_acts n _)
  refine Relation.ReflTransGen.trans ?_ (ite_acts _ fun _ => (withdraw_eases n .busy _).acts)
  refine (Act.reports n (newLoad (bank s) (s.carrier n) (effectiveLoad (bank s) util users)) h
    fun hc => newLoad_le (effectiveLoad_le _ util users) hc).run.trans ?_
  exact scheduleReport_acts n _ _ _ (by simp [takeReport]) (by simp [takeReport]) (by simp [takeReport])

theorem loadRule_acts (util users : Nat) (n : Site) (s : State) : Acts s (loadRule util users n s).state := by
  rw [loadRule]
  split
  · rename_i h; exact report_acts n util users s (.inl h)
  · rename_i h; exact report_acts n util users s (.inr (.inl h))
  · rename_i h; exact report_acts n util users s (.inr (.inr h))
  all_goals exact .refl

theorem acceptRule_acts (token : Nat) (n : Site) (s : State) : Acts s (acceptRule token n s).state := by
  rw [acceptRule]
  split
  · rename_i h
    simp only [Bool.and_eq_true, beq_iff_eq] at h
    exact (Act.drains n h.1).run
  · exact .refl

theorem declineRule_acts (token : Nat) (n : Site) (s : State) : Acts s (declineRule token n s).state := by
  rw [declineRule]
  split
  · rename_i h
    rw [Bool.and_eq_true] at h
    exact (returnToActive_eases n s h.1).acts.trans (dispatch_eases _ _).acts
  · exact .refl

/-- The state with another sleep stack. -/
def State.withStack (s : State) (l : List Site) : State := { s with stack := l }

theorem forList_withStack {α : Type} (f : α → State → State) (k : List Site)
    (hf : ∀ x s, f x (s.withStack k) = (f x s).withStack k) :
    ∀ (l : List α) (s : State), forList l f (s.withStack k) = (forList l f s).withStack k
  | [], _ => rfl
  | x :: l, s => by
    have ih := forList_withStack f k hf l (f x s)
    rw [← hf] at ih
    exact ih

theorem endOfDrain_withStack (anchors : List Site) (s : State) (k : List Site) :
    endOfDrain anchors (s.withStack k) = (endOfDrain anchors s).withStack k := by
  refine forList_withStack _ k (fun x u => ?_) anchors s
  have hdrains : drainingDependents (u.withStack k) x = drainingDependents u x := rfl
  have hcarrier : (u.withStack k).carrier x = u.carrier x := rfl
  simp only [hdrains, hcarrier]
  split <;> rfl

theorem dispatchUpTo_withStack (k : List Site) : ∀ (j : Nat) (t : Tenant) (s : State),
    dispatchUpTo j t (s.withStack k) = (dispatchUpTo j t s).withStack k
  | 0, _, _ => rfl
  | j + 1, t, s => by
    have hport : (s.withStack k).port t = s.port t := rfl
    have hout : outstanding (s.withStack k) t = outstanding s t := rfl
    cases hq : (s.port t).offerQueue with
    | nil => simp only [dispatchUpTo, hport, hq]
    | cons n rest =>
      simp only [dispatchUpTo, hport, hout, hq]
      split
      · exact dispatchUpTo_withStack k j t (issueOffer n (s.modPort t fun p => { p with offerQueue := rest }))
      · rfl

theorem dispatch_withStack (t : Tenant) (s : State) (k : List Site) :
    dispatch t (s.withStack k) = (dispatch t s).withStack k :=
  dispatchUpTo_withStack k _ t s

theorem graceTest_withStack (r : RailId) (s : State) (k : List Site) :
    graceTest r (s.withStack k) = (graceTest r s).withStack k := by
  have hsleepers : sleepersOn (s.withStack k) r = sleepersOn s r := rfl
  have hdark : (night (s.withStack k) && decide (((s.withStack k).rail r).breakEven ≤ remaining (s.withStack k))) =
    (night s && decide ((s.rail r).breakEven ≤ remaining s)) := rfl
  simp only [graceTest, hsleepers, hdark]
  split
  · rfl
  · split <;> rfl

theorem needFalls_withStack (r : RailId) (s : State) (k : List Site) :
    needFalls r (s.withStack k) = (needFalls r s).withStack k := by
  have hneed : needCount (s.withStack k) r = needCount s r := rfl
  have hrail : (s.withStack k).rail r = s.rail r := rfl
  have hbank : bank (s.withStack k) = bank s := rfl
  have hgrace := graceTest_withStack r
    (s.modRail r fun x => { x with state := .hold, graceTimer := some s.now, held := false }) k
  simp only [needFalls, hneed, hrail]
  split
  · cases (s.rail r).state <;> try rfl
    simp only [enterHold, hbank]
    split
    · exact hgrace
    · rfl
  · rfl

/-- A taken DRAINED may push the sleeper on the stack at once: nothing that follows looks at the stack. -/
theorem fallAsleep_eq (n : Site) (s : State) :
    fallAsleep n s = needFalls (s.carrier n).rail (dispatch (s.carrier n).owner (endOfDrain (s.carrier n).anchors
      ((s.modCarrier n Carrier.slept).withStack (n :: s.stack)))) := by
  have stack : ∀ u : State, (needFalls (s.carrier n).rail (dispatch (s.carrier n).owner
      (endOfDrain (s.carrier n).anchors u))).stack = u.stack := fun u => by
    have h := endOfDrain_withStack (s.carrier n).anchors u u.stack
    have h := congrArg (fun w => (needFalls (s.carrier n).rail (dispatch (s.carrier n).owner w)).stack) h
    rwa [dispatch_withStack, needFalls_withStack] at h
  rw [endOfDrain_withStack, dispatch_withStack, needFalls_withStack, fallAsleep]
  simp only [stack]
  rfl

theorem drainedRule_acts (token : Nat) (n : Site) (s : State) : Acts s (drainedRule token n s).state := by
  rw [drainedRule]
  split
  · rename_i h
    rw [Bool.and_eq_true] at h
    change Acts s (fallAsleep n s)
    rw [fallAsleep_eq]
    exact (((Act.sleeps n h.1).run.trans (endOfDrain_eases _ _).acts).trans (dispatch_eases _ _).acts).trans
      (needFalls_moves _ _).acts
  · exact .refl

theorem wakeRule_acts (n : Site) (s : State) : Acts s (wakeRule n s).state := by
  rw [wakeRule]
  split
  · exact (wakeCarrier_moves n .ordinary s).acts
  · exact (withdraw_eases n .busy s).acts
  · exact (withdraw_eases n .busy s).acts
  all_goals exact .refl

theorem keepRule_acts (n : Site) (s : State) : Acts s (keepRule n s).state := by
  rw [keepRule]
  split
  · exact .refl
  · rename_i h
    exact addPin_acts .tenant n s (by simpa using h)

theorem unkeepRule_acts (n : Site) (s : State) : Acts s (unkeepRule n s).state := by
  rw [unkeepRule]
  split
  · exact .refl
  · exact removePin_acts .tenant n s

theorem faultRule_acts (n : Site) (s : State) : Acts s (faultRule n s).state := by
  rw [faultRule]
  split
  · rename_i h
    exact (tenantFault_moves n s h).acts
  · exact .refl

theorem clearRule_acts (n : Site) (s : State) : Acts s (clearRule n s).state := by
  rw [clearRule]
  split
  · rename_i h
    exact enterWaking_acts_of_faulted n .ordinary s ((clearable_iff s n).1 h).1
  · exact .refl

theorem handle_acts (t : Tenant) (kind num unused : Nat) (silent : Bool) (rule : Site → State → Answer) (s : State)
    (h : ∀ n, Acts s (rule n s).state) : Acts s (handle t kind num unused silent rule s) := by
  rw [handle]
  split
  · exact post_acts _ _ s
  · rename_i n _
    split
    · dsimp only
      split
      · exact h n
      · exact (h n).trans (post_acts _ _ _)
    · exact post_acts _ _ s

theorem handleRequest_acts (i : Instr) (s : State) : Acts s (handleRequest i s) := by
  rw [handleRequest.eq_def]
  split
  · exact handle_acts _ _ _ _ _ _ s fun n => loadRule_acts _ _ n s
  · exact handle_acts _ _ _ _ _ _ s fun n => acceptRule_acts _ n s
  · exact handle_acts _ _ _ _ _ _ s fun n => declineRule_acts _ n s
  · exact handle_acts _ _ _ _ _ _ s fun n => drainedRule_acts _ n s
  · exact handle_acts _ _ _ _ _ _ s fun n => wakeRule_acts n s
  · exact handle_acts _ _ _ _ _ _ s fun n => keepRule_acts n s
  · exact handle_acts _ _ _ _ _ _ s fun n => unkeepRule_acts n s
  · exact handle_acts _ _ _ _ _ _ s fun n => faultRule_acts n s
  · exact handle_acts _ _ _ _ _ _ s fun n => clearRule_acts n s
  · exact handle_acts _ _ _ _ _ _ s fun _ => .refl
  · exact post_acts _ _ s
  · exact .refl

theorem whenTaken_acts (t : Tenant) (i : Instr) (s : State) : Acts s (whenTaken t (handleRequest i) s) :=
  ite_acts _ fun _ => handleRequest_acts i s

theorem takeUpTo_acts : ∀ (k : Nat) (t : Tenant) (s : State), Acts s (takeUpTo k t s)
  | 0, _, _ => .refl
  | k + 1, t, s => by
    rw [takeUpTo]
    split
    · exact .refl
    · exact ite_acts _ fun _ => ((port_acts t _ s fun _ => by rfl).trans (handleRequest_acts _ _)).trans
        (takeUpTo_acts k t _)

theorem takeRequests_acts (t : Tenant) (s : State) : Acts s (takeRequests t s) := takeUpTo_acts _ t s

/-! ### Link supervision and the tenant ports -/

theorem setLinkPins_acts (t : Tenant) (v : Bool) (which : Carrier → Bool) (s : State)
    (h : ∀ c : Carrier, which c = true → c.power = .offline → v = false) : Acts s (setLinkPins t v which s) := by
  refine forList_acts _ (fun n u => ite_acts _ fun hc => ?_) _ s
  rw [Bool.and_eq_true] at hc
  exact (Act.pins n .link v (h _ hc.2)).run

theorem enterLinked_acts (t : Tenant) (s : State) : Acts s (enterLinked t s) :=
  (((port_acts t _ s fun _ => by rfl).trans (setLinkPins_acts t false _ _ fun _ _ _ => rfl)).trans
    (reevalOwned_eases t _).acts).trans (takeRequests_acts t _)

theorem enterSilent_acts (t : Tenant) (state : LinkState) (s : State) : Acts s (enterSilent t state s) := by
  have queue (u : State) : Acts u (emptyQueue t u) := (Moves.acts (Move.empties t).run)
  refine (((((port_acts t _ s fun _ => by rfl).trans (queue _)).trans
    (setLinkPins_acts t true _ _ fun c hc hp => ?_)).trans (forList_acts _ (fun n u => ?_) _ _))).trans
    (bulkWake_moves _ _ _).acts
  · simp [hp] at hc
  · exact ite_acts _ fun _ => (withdraw_eases n .link u).acts

theorem enterDisabled_acts (t : Tenant) (s : State) : Acts s (enterDisabled t s) :=
  (enterSilent_acts t .disabled s).trans (Act.port t Port.cleared (fun _ h => h) fun _ => .inr rfl).run

theorem writePort_acts (t : Tenant) (window slots : Nat) (s : State)
    (hw : window = 0 ∨ 2 ≤ window ∧ window ≤ 60) (hs : 1 ≤ slots ∧ slots ≤ 4) : Acts s (writePort t window slots s) :=
  (Act.port t _ (fun _ _ => by exact ⟨hw, hs⟩) fun _ => by exact .inl rfl).run

theorem setPortEffect_acts (t : Tenant) (en : Bool) (window slots : Nat) (s : State)
    (hw : window = 0 ∨ 2 ≤ window ∧ window ≤ 60) (hs : 1 ≤ slots ∧ slots ≤ 4) :
    Acts s (setPortEffect t en window slots s) := by
  have write := fun u => writePort_acts t window slots u hw hs
  rw [setPortEffect.eq_def]
  split
  · exact write s
  · exact (write s).trans (enterLinked_acts t _)
  · exact .refl
  · exact (enterDisabled_acts t s).trans (write _)

theorem setPortRule_acts (tenant enabled window slots : Nat) (s : State) :
    Acts s (setPortRule tenant enabled window slots s).1 := by
  rw [setPortRule]
  split
  · rename_i t en _ _
    dsimp only
    split
    · exact .refl
    · rename_i hr
      simp only [Bool.or_eq_true, decide_eq_true_eq, not_or] at hr
      split
      · exact .refl
      · exact setPortEffect_acts t en window slots s (by omega) (by omega)
  · exact .refl

theorem linkWindowExpires_acts (t : Tenant) (s : State) : Acts s (linkWindowExpires t s) := by
  rw [linkWindowExpires]
  split
  · exact (enterSilent_acts t .lost s).trans (addAlert_acts _ _)
  · exact port_acts t _ s fun _ => by rfl

theorem ackAlertRule_acts (count : Nat) (slots : List Nat) (s : State) : Acts s (ackAlertRule count slots s).1 := by
  rw [ackAlertRule]
  split
  · exact (Act.alerts _).run
  · exact .refl

theorem returnLatch_settings (p : Port) : p.returnLatch.settings = p.settings := by
  rw [Port.returnLatch]
  split
  · rfl
  · split <;> rfl

theorem clockEdge_settings (p : Port) (tdin : Bool) (now : Time) : (p.clockEdge tdin now).settings = p.settings := by
  rw [Port.clockEdge]
  split <;> rfl

theorem selectFalls_acts (t : Tenant) (s : State) : Acts s (selectFalls t s) :=
  port_acts t _ s fun p => by
    split
    · rfl
    · split <;> rfl

theorem clockRises_acts (t : Tenant) (tdin : Bool) (s : State) : Acts s (clockRises t tdin s) :=
  port_acts t _ s fun p => by
    split
    · rfl
    · exact clockEdge_settings p tdin _

theorem stallExpires_acts (t : Tenant) (s : State) : Acts s (stallExpires t s) :=
  port_acts t _ s fun p => by
    split
    · exact returnLatch_settings p
    · rfl
    · rfl

theorem deliver_acts (t : Tenant) (s : State) : Acts s (deliver t s) :=
  (port_acts t _ s fun _ => by rfl).trans (ite_acts _ fun _ => takeRequests_acts t _)

theorem linkHeard_acts (t : Tenant) (s : State) : Acts s (linkHeard t s) := by
  rw [linkHeard]
  split
  · exact port_acts t _ s fun _ => by rfl
  · exact enterLinked_acts t s
  · exact .refl

theorem arrive_acts (t : Tenant) (q : Request) (s : State) : Acts s (arrive t q s) := by
  rw [arrive]
  split
  · exact .refl
  · split
    · exact port_acts t _ s fun _ => by rfl
    · exact (port_acts t _ s fun _ => by rfl).trans (addAlert_acts _ _)

theorem frameKind_acts (t : Tenant) (q : Request) (s : State) : Acts s (frameKind t q s) := by
  rw [frameKind]
  split
  · exact .refl
  · split
    · exact port_acts t _ s fun _ => by rfl
    · exact arrive_acts t q s

theorem endTransfer_acts (t : Tenant) (edges : Nat) (inb : BitVec 128) (s : State) :
    Acts s (endTransfer t edges inb s) := by
  rw [endTransfer]
  refine (port_acts t (fun p => { p with transfer := .idle, stallTimer := none }) s fun _ => by rfl).trans ?_
  split
  · exact port_acts t _ _ returnLatch_settings
  · refine (deliver_acts t _).trans ?_
    split
    · exact ((linkHeard_acts t _).trans (frameKind_acts t _ _)).trans (takeRequests_acts t _)
    · exact port_acts t _ _ fun _ => by rfl

theorem selectRises_acts (t : Tenant) (s : State) : Acts s (selectRises t s) := by
  rw [selectRises]
  split
  · exact .refl
  · refine (port_acts t (fun p => { p with tselHigh := true }) s fun _ => by rfl).trans ?_
    split
    · exact .refl
    · exact port_acts t _ _ fun _ => by rfl
    · exact endTransfer_acts t _ _ _

/-! ### The site port -/

theorem respond_acts {s : State} {a : State × Response} (h : Acts s a.1) : Acts s (respond a) :=
  h.trans (Act.mgmt _ fun ⟨ha, _⟩ => ⟨ha, Nat.zero_le _⟩).run

theorem readRailRule_acts (rail : Nat) (s : State) : Acts s (readRailRule rail s).1 := by
  rw [readRailRule]
  split
  · exact .refl
  · exact (Act.envReads _).run

/-- Every other read changes nothing. -/
theorem readRule_state (s : State) : (∀ n, (readCarrierRule n s).1 = s) ∧ (∀ t, (readTenantRule t s).1 = s) := by
  refine ⟨fun n => ?_, fun t => ?_⟩
  · rw [readCarrierRule]; split <;> rfl
  · rw [readTenantRule]; split <;> rfl

theorem siteRule_acts (i : Instr) (s : State) : Acts s (siteRule i s).1 := by
  rw [siteRule.eq_def]
  split
  · exact setCarrierRule_acts _ _ _ _ _ _ _ _ _ s
  · exact clearCarrierRule_acts _ s
  · exact enableRule_acts _ s
  · exact disableRule_acts _ s
  · exact pinRule_acts _ s
  · exact unpinRule_acts _ s
  · exact setSlicesRule_acts _ _ _ s
  · exact setRailRule_acts _ _ _ _ _ s
  · exact setBiasRule_acts _ _ s
  · exact clearFaultCarrierRule_acts _ s
  · exact clearFaultRailRule_acts _ s
  · exact setWindowRule_acts _ _ _ _ s
  · exact setTimeRule_acts _ s
  · exact setDividerRule_acts _ s
  · exact setInputsRule_acts _ _ _ s
  · exact setBankParamRule_acts _ _ _ s
  · exact selectBankRule_acts _ s
  · exact writeStandDown_acts true s
  · exact writeStandDown_acts false s
  · exact setPortRule_acts _ _ _ _ s
  · exact ackAlertRule_acts _ _ s
  · exact clearTallyRule_acts _ s
  · rw [(readRule_state s).1]
  · exact readRailRule_acts _ s
  · rw [(readRule_state s).2]
  all_goals exact .refl

theorem processRecord_acts (bytes : List Byte) (s : State) : Acts s (processRecord bytes s) := by
  rw [processRecord]
  split
  · exact .refl
  · exact respond_acts (siteRule_acts _ s)

theorem endWrite_acts (s : State) : Acts s (endWrite s) := by
  rw [endWrite]
  split
  · exact processRecord_acts _ s
  all_goals exact .refl

theorem addressed_ok {m : Mgmt} (address : Nat) (read : Bool) (h : MgmtOk m) : MgmtOk (m.addressed address read) := by
  rw [Mgmt.addressed]
  split
  · split <;> exact ⟨h.1, Nat.zero_le _⟩
  · exact ⟨h.1, Nat.zero_le _⟩

theorem dataByte_ok {m : Mgmt} (byte : Byte) (ack : Bool) (h : MgmtOk m) : MgmtOk (m.dataByte byte ack) := by
  rw [Mgmt.dataByte]
  split
  · split
    · rename_i hl
      refine ⟨h.1, ?_⟩
      simpa [Config.recordBytes] using hl
    · exact h
  · split <;> exact h
  all_goals exact h

theorem sclEdge_ok {m : Mgmt} (rising : Bool) (now : Time) (h : MgmtOk m) : MgmtOk (m.sclEdge rising now) := by
  rw [Mgmt.sclEdge]
  split <;> exact h

theorem abandon_ok {m : Mgmt} (h : MgmtOk m) : MgmtOk m.abandon := by
  rw [Mgmt.abandon]
  split
  · exact ⟨h.1, Nat.zero_le _⟩
  · exact ⟨h.1, Nat.zero_le _⟩
  · exact h
  · exact h

theorem startCondition_acts (address : Nat) (read : Bool) (s : State) : Acts s (startCondition address read s) :=
  (endWrite_acts s).trans (Act.mgmt _ (addressed_ok address read)).run

theorem stopCondition_acts (s : State) : Acts s (stopCondition s) :=
  (endWrite_acts s).trans (Act.mgmt _ fun ⟨ha, _⟩ => ⟨ha, Nat.zero_le _⟩).run

theorem powerOnReset_acts (addr : Nat) (s : State) : Acts s (powerOnReset addr s) := by
  rw [powerOnReset_eq]
  exact ((Act.resets addr).run.trans (recheckLine_acts _ _)).trans (recheckLine_acts _ _)

/-! ### Every command -/

theorem exec_acts {i : Instr} {s t : State} (h : exec i s = .next t) : Acts s t := by
  cases i with
  | powerOnReset addr => cases h; exact powerOnReset_acts addr s
  | malformedSiteRecord bytes => cases h; exact processRecord_acts bytes s
  | busTimeout => cases h; exact ite_acts _ fun _ => (Act.mgmt _ abandon_ok).run
  | transferStart t => cases h; exact selectFalls_acts t s
  | stallTimeout t => cases h; exact ite_acts _ fun _ => stallExpires_acts t s
  | frameEnd t => cases h; exact selectRises_acts t s
  | load t num util users unused => cases h; exact whenTaken_acts t (.load t num util users unused) s
  | accept t num token unused => cases h; exact whenTaken_acts t (.accept t num token unused) s
  | decline t num token unused => cases h; exact whenTaken_acts t (.decline t num token unused) s
  | drained t num token unused => cases h; exact whenTaken_acts t (.drained t num token unused) s
  | wake t num unused => cases h; exact whenTaken_acts t (.wake t num unused) s
  | keep t num unused => cases h; exact whenTaken_acts t (.keep t num unused) s
  | unkeep t num unused => cases h; exact whenTaken_acts t (.unkeep t num unused) s
  | fault t num unused => cases h; exact whenTaken_acts t (.fault t num unused) s
  | clear t num unused => cases h; exact whenTaken_acts t (.clear t num unused) s
  | query t num unused => cases h; exact whenTaken_acts t (.query t num unused) s
  | unknownTenantRequest t kind num => cases h; exact whenTaken_acts t (.unknownTenantRequest t kind num) s
  | linkWindowExpiry t => cases h; exact ite_acts _ fun _ => linkWindowExpires_acts t s
  | staleTimerExpiry n => cases h; exact ite_acts _ fun _ => (staleExpires_moves n s).acts
  | answerTimerExpiry n => cases h; exact ite_acts _ fun _ => (answerExpires_moves n s).acts
  | drainTimerExpiry n => cases h; exact ite_acts _ fun _ => (drainExpires_moves n s).acts
  | dwellElapses n =>
    cases h; exact ite_acts _ fun _ => (dwellEnds_moves n s).acts.trans (reeval_eases n _).acts
  | minAwakePasses n =>
    cases h; exact ite_acts _ fun _ => (minAwakeEnds_moves n s).acts.trans (reeval_eases n _).acts
  | surgeHoldoffEnds n => cases h; exact ite_acts _ fun _ => (holdoffEnds_moves n s).acts
  | graceExpiry r => cases h; exact ite_acts _ fun _ => (graceExpires_moves r s).acts
  | settleExpiry r level => cases h; exact ite_acts _ fun _ => settleExpires_acts r level s
  | retryWaitExpiry r => cases h; exact ite_acts _ fun _ => retryExpires_acts r s
  | secondsEvent => cases h; exact secondPasses_acts s
  | inputLevelChange line level => cases h; exact (Act.inputs _).run.trans (recheckLine_acts line _)
  | debounceExpiry line => cases h; exact ite_acts _ fun _ => debounceExpires_acts line s
  | powerGoodFall r => cases h; exact powerFalls_acts r s
  | tclkRisingEdge t tdin => cases h; exact clockRises_acts t tdin s
  | i2cStartCondition address read => cases h; exact startCondition_acts address read s
  | i2cStopCondition => cases h; exact stopCondition_acts s
  | i2cDataByte byte ack => cases h; exact (Act.mgmt _ (dataByte_ok byte ack)).run
  | sclEdge rising => cases h; exact (Act.mgmt _ (sclEdge_ok rising s.now)).run
  | setCarrier n owner role rail count a0 a1 a2 trim =>
    cases h; exact respond_acts (setCarrierRule_acts n owner role rail count a0 a1 a2 trim s)
  | clearCarrier n => cases h; exact respond_acts (clearCarrierRule_acts n s)
  | enable n => cases h; exact respond_acts (enableRule_acts n s)
  | disable n => cases h; exact respond_acts (disableRule_acts n s)
  | pin n => cases h; exact respond_acts (pinRule_acts n s)
  | unpin n => cases h; exact respond_acts (unpinRule_acts n s)
  | setSlices t p q => cases h; exact respond_acts (setSlicesRule_acts t p q s)
  | setRail r i b f d => cases h; exact respond_acts (setRailRule_acts r i b f d s)
  | setBias r c => cases h; exact respond_acts (setBiasRule_acts r c s)
  | clearFaultCarrier n => cases h; exact respond_acts (clearFaultCarrierRule_acts n s)
  | clearFaultRail r => cases h; exact respond_acts (clearFaultRailRule_acts r s)
  | setWindow w e x y => cases h; exact respond_acts (setWindowRule_acts w e x y s)
  | setTime tod => cases h; exact respond_acts (setTimeRule_acts tod s)
  | setDivider d => cases h; exact respond_acts (setDividerRule_acts d s)
  | setInputs p q d => cases h; exact respond_acts (setInputsRule_acts p q d s)
  | setBankParam b p v => cases h; exact respond_acts (setBankParamRule_acts b p v s)
  | selectBank m => cases h; exact respond_acts (selectBankRule_acts m s)
  | standDown => cases h; exact respond_acts (siteRule_acts .standDown s)
  | resume => cases h; exact respond_acts (siteRule_acts .resume s)
  | setPort t e w d => cases h; exact respond_acts (setPortRule_acts t e w d s)
  | ackAlert c slots => cases h; exact respond_acts (ackAlertRule_acts c slots s)
  | clearTally r => cases h; exact respond_acts (clearTallyRule_acts r s)
  | readCarrier n => cases h; exact respond_acts (siteRule_acts (.readCarrier n) s)
  | readRail r => cases h; exact respond_acts (readRailRule_acts r s)
  | readTenant t => cases h; exact respond_acts (siteRule_acts (.readTenant t) s)
  | readSite => cases h; exact respond_acts (siteRule_acts .readSite s)
  | readTally => cases h; exact respond_acts (siteRule_acts .readTally s)

theorem countRead_acts (i : Instr) (s : State) : Acts s (countRead i s) := by
  rw [countRead.eq_def]
  split
  · exact (Act.envReads _).run
  · exact .refl

/-- With no command of the part's own due, the next tick completes no second. -/
theorem subTicks_of_idleCommand_none {s : State} (h : idleCommand s = none) : s.clock.subTicks + 1 < 1000 := by
  rw [idleCommand] at h
  split at h
  · cases h
  · split at h
    · assumption
    · cases h

theorem step_acts {s t : State} (h : step s = .next t) : Acts s t := by
  rw [step] at h
  split at h
  · exact (Act.pending _).run.trans (exec_acts h)
  · split at h
    · exact (countRead_acts _ s).trans (exec_acts h)
    · rename_i hidle
      cases h
      exact idleTick_acts s (subTicks_of_idleCommand_none hidle)

end Sys2Proof.Machine
end

/-! # Settings and anchor lists -/

section

namespace Sys2Proof.Machine

/-! ### The law of the settings -/

/-- Every ramp count within R105. -/
abbrev RampCountsOk (s : State) : Prop := ∀ r : RailId, (s.rail r).rampCount ≤ 4294967295

theorem rampCountsOk_modRail {s : State} {r : RailId} {f : Rail → Rail} (h : RampCountsOk s)
    (hf : ∀ x : Rail, x.rampCount ≤ 4294967295 → (f x).rampCount ≤ 4294967295) : RampCountsOk (s.modRail r f) := by
  intro q
  rw [rail_modRail]
  split
  · exact hf _ (h q)
  · exact h q

/-- The ramp queue does not show in the ramp counts. -/
theorem rampCountsOk_of_rails {s t : State} (h : RampCountsOk s) (hr : t.rails = s.rails) : RampCountsOk t := by
  intro r
  rw [State.rail, hr]
  exact h r

theorem grantTo_rampCount (r q : RailId) (s : State) : ((grantTo r s).rail q).rampCount =
    if q = r then satSucc Config.tallyMax (s.rail q).rampCount else (s.rail q).rampCount := by
  simp only [grantTo, leaveRamp, State.rail, State.modRail, Vector.getElem_set, ← Fin.ext_iff, eq_comm (a := r)]
  split
  · rename_i h; subst h; rfl
  · rfl

theorem rampCountsOk_grantTo {s : State} (r : RailId) (h : RampCountsOk s) : RampCountsOk (grantTo r s) := by
  intro q
  rw [grantTo_rampCount]
  split
  · exact satSucc_le (h q)
  · exact h q

theorem rampCountsOk_grant {s : State} (h : RampCountsOk s) : RampCountsOk (grant s) := by
  rcases grant_cases s with ⟨r, _, _, _, hg⟩ | ⟨hg, _⟩
  · rw [hg]; exact rampCountsOk_grantTo r h
  · rw [hg]; exact h

theorem rampCountsOk_queueRail {s : State} (r : RailId) (cls : RampClass) (h : RampCountsOk s) :
    RampCountsOk (queueRail r cls s) := by
  have queued : RampCountsOk (s.modRail r fun x => { x with state := .queued }) := rampCountsOk_modRail h fun _ hx => hx
  cases cls <;> exact rampCountsOk_grant (rampCountsOk_of_rails queued rfl)

/-- Of the moves of a cascade only a grant raises a ramp count. -/
theorem Move.keeps_rampCounts {s t : State} (m : Move s t) (h : RampCountsOk s) : RampCountsOk t := by
  cases m with
  | ease e => intro r; rw [State.rail, e.rails.1]; exact h r
  | queues r cls _ => exact rampCountsOk_queueRail r cls h
  | returns r _ => exact rampCountsOk_modRail h fun _ hx => hx
  | holds r _ _ => exact rampCountsOk_modRail h fun _ hx => hx
  | graceStops r => exact rampCountsOk_modRail h fun _ hx => hx
  | darkens r _ => exact rampCountsOk_modRail h fun _ hx => hx
  | isHeld r _ => exact rampCountsOk_modRail h fun _ hx => hx
  | gives r _ _ =>
    have off : RampCountsOk (s.modRail r fun x => { x with state := .off }) := rampCountsOk_modRail h fun _ hx => hx
    exact rampCountsOk_of_rails off rfl
  | empties t =>
    exact forList_induction RampCountsOk (fun n s => s.modCarrier n fun c => { c with ripeTime := none })
      (fun _ _ hu => hu) _ s h
  | _ => exact h

theorem Move.keeps_settings {s t : State} (m : Move s t) (h : SettingsOk s) : SettingsOk t := by
  obtain ⟨hbanks, hwin, htod, hsub, hrails, hports, haddr, hbuf⟩ := h
  have cascade := m.cascade
  have counts : RampCountsOk t := m.keeps_rampCounts fun r => by
    obtain ⟨-, -, -, -, -, count⟩ := hrails r
    exact count
  refine ⟨?_, ?_, ?_, ?_, fun r => ?_, fun u => ?_, ?_, ?_⟩
  · rwa [cascade.banks]
  · rwa [cascade.clock]
  · rwa [cascade.clock]
  · rwa [cascade.clock]
  · have lasting := cascade.rails r
    simp only [Rail.lasting, Prod.mk.injEq] at lasting
    obtain ⟨hi, hb, hf, hr, -, -, ho, -, -⟩ := lasting
    obtain ⟨gi, gb, gf, gr, go, -⟩ := hrails r
    rw [← hi] at gi
    rw [← hb] at gb
    rw [← hf] at gf
    rw [← hr] at gr
    rw [← ho] at go
    exact ⟨gi, gb, gf, gr, go, counts r⟩
  · have lasting := cascade.ports u
    have hw : (t.port u).linkWindow = (s.port u).linkWindow := 
      (congrArg Port.linkWindow lasting : (t.port u).lasting.linkWindow = (s.port u).lasting.linkWindow)
    have hd : (t.port u).drainSlots = (s.port u).drainSlots := 
      (congrArg Port.drainSlots lasting : (t.port u).lasting.drainSlots = (s.port u).lasting.drainSlots)
    rw [PortSettingsOk, hw, hd]
    exact hports u
  · rwa [cascade.mgmt]
  · rwa [cascade.mgmt]

theorem resetState_carrier (addr : Nat) (s : State) (n : Site) : (resetState addr s).carrier n = Carrier.reset := by
  simp [State.carrier, resetState, State.reset]

theorem resetState_rail (addr : Nat) (s : State) (r : RailId) :
    ∃ level, (resetState addr s).rail r = Rail.reset level := by
  fin_cases r <;> exact ⟨_, rfl⟩

theorem resetState_port (addr : Nat) (s : State) (u : Tenant) :
    ∃ level, (resetState addr s).port u = Port.reset level := by
  cases u <;> exact ⟨_, rfl⟩

theorem reset_settings_of_parts {s : State} (hclock : s.clock = Clock.reset) (hbanks : s.banks = State.reset.banks)
    (hrails : ∀ r, ∃ level, s.rail r = Rail.reset level) (hports : ∀ u, ∃ level, s.port u = Port.reset level)
    (hmgmt : MgmtOk s.mgmt) : SettingsOk s := by
  refine ⟨?_, ?_, ?_, ?_, fun r => ?_, fun u => ?_, hmgmt.1, hmgmt.2⟩
  · rw [hbanks]; decide
  · rw [hclock]; decide
  · rw [hclock]; decide
  · rw [hclock]; decide
  · obtain ⟨level, hr⟩ := hrails r
    rw [hr]; simp [RailSettingsOk, Rail.reset]
  · obtain ⟨level, hu⟩ := hports u
    rw [hu]; simp [PortSettingsOk, Port.reset]

theorem resetState_settings (addr : Nat) (s : State) : SettingsOk (resetState addr s) := by
  refine reset_settings_of_parts rfl rfl (resetState_rail addr s) (resetState_port addr s) ⟨?_, Nat.zero_le _⟩
  simp only [resetState, Mgmt.reset]
  omega

theorem Act.keeps_settings {s t : State} (a : Act s t) (h : SettingsOk s) : SettingsOk t := by
  have ⟨hbanks, hwin, htod, hsub, hrails, hports, haddr, hbuf⟩ := h
  cases a with
  | move m => exact m.keeps_settings h
  | clock c hc =>
    obtain ⟨gwin, gtod, gsub⟩ := hc ⟨hwin, htod, hsub⟩
    exact ⟨hbanks, gwin, gtod, gsub, hrails, hports, haddr, hbuf⟩
  | banks b hb => exact ⟨hb hbanks, hwin, htod, hsub, hrails, hports, haddr, hbuf⟩
  | mgmt m hm =>
    obtain ⟨gaddr, gbuf⟩ := hm ⟨haddr, hbuf⟩
    exact ⟨hbanks, hwin, htod, hsub, hrails, hports, gaddr, gbuf⟩
  | rail r f hf =>
    refine ⟨hbanks, hwin, htod, hsub, fun q => ?_, hports, haddr, hbuf⟩
    rw [rail_modRail]
    split
    · exact hf _ (hrails q)
    · exact hrails q
  | port t f hf _ =>
    refine ⟨hbanks, hwin, htod, hsub, hrails, fun u => ?_, haddr, hbuf⟩
    rw [port_modPort]
    split
    · exact hf _ (hports u)
    · exact hports u
  | resets addr => exact resetState_settings addr s
  | disables n _ =>
    have leaves : SettingsOk (unqueue n s) := Move.keeps_settings (.ease (.leaves n)) h
    exact leaves
  | _ => exact ⟨hbanks, hwin, htod, hsub, hrails, hports, haddr, hbuf⟩

/-! ### The law of the anchor lists -/

/-- What the anchor law shows of a record. -/
def Carrier.provisioning (c : Carrier) : Bool × Tenant × Role × List Site × Int :=
  (c.provisioned, c.owner, c.role, c.anchors, c.trim)

/-- The anchor law depends on nothing but the provisioning fields. -/
theorem anchorsOk_of_provisioning {s t : State} (h : AnchorsOk s)
    (hc : ∀ n, (t.carrier n).provisioning = (s.carrier n).provisioning) : AnchorsOk t := by
  simp only [Carrier.provisioning, Prod.mk.injEq] at hc
  intro n hp
  obtain ⟨hprov, howner, hrole, hanchors, htrim⟩ := hc n
  have law := h n (hprov ▸ hp)
  rw [hrole, hanchors, htrim, howner]
  obtain ⟨hcov, hnodup, hlen, htr, hx⟩ := law
  refine ⟨hcov, hnodup, hlen, htr, fun x hmem => ?_⟩
  obtain ⟨hne, xprov, xrole, xowner⟩ := hx x hmem
  obtain ⟨gprov, gowner, grole, -, -⟩ := hc x
  exact ⟨hne, gprov ▸ xprov, grole ▸ xrole, gowner ▸ xowner⟩

theorem anchorsOk_modCarrier {s : State} {n : Site} {f : Carrier → Carrier} (h : AnchorsOk s)
    (hf : ∀ c, (f c).provisioning = c.provisioning) : AnchorsOk (s.modCarrier n f) := by
  refine anchorsOk_of_provisioning h fun m => ?_
  rw [carrier_modCarrier]
  split
  · exact hf _
  · rfl

theorem Cascade.keeps_anchors {s t : State} (c : Cascade s t) (h : AnchorsOk s) : AnchorsOk t := by
  refine anchorsOk_of_provisioning h fun n => ?_
  have lasting := c.carriers n
  simp only [Carrier.lasting, Prod.mk.injEq] at lasting
  simp only [Carrier.provisioning, lasting]

/-- A taken SET_CARRIER keeps the anchor law (R13). -/
theorem anchorsOk_writeCarrier {s : State} {i : Site} {owner : Tenant} {role : Role} {rail : RailId}
    {anchors : List Site} {trim : Int} (h : AnchorsOk s) (hw : Provisionable s i owner role anchors trim) :
    AnchorsOk (writeCarrier i owner role rail anchors trim s) := by
  intro n
  rw [writeCarrier, carrier_modCarrier]
  split
  · rename_i hn
    subst hn
    intro _
    refine ⟨hw.coverage, hw.nodup, hw.length, hw.trim, fun x hx => ?_⟩
    have hxi := hw.anchors x hx
    rw [carrier_modCarrier_ne s _ hxi.1]
    exact hxi
  · rename_i hn
    intro hp
    obtain ⟨hcov, hnodup, hlen, htrim, hanchors⟩ := h n hp
    refine ⟨hcov, hnodup, hlen, htrim, fun x hx => ?_⟩
    obtain ⟨hne, xprov, xrole, xowner⟩ := hanchors x hx
    rw [carrier_modCarrier]
    split
    · rename_i hxi
      subst hxi
      obtain ⟨hrole, howner⟩ := hw.dependents n hn hp hx
      exact ⟨hne, rfl, hrole, howner.trans xowner⟩
    · exact ⟨hne, xprov, xrole, xowner⟩

/-- A record that no other lists may lose its provisioning (R15). -/
theorem anchorsOk_unprovision {s : State} {i : Site} {f : Carrier → Carrier} (h : AnchorsOk s)
    (hf : ∀ c, (f c).provisioned = false)
    (hd : ∀ m, m ≠ i → (s.carrier m).provisioned = true → i ∉ (s.carrier m).anchors) :
    AnchorsOk (s.modCarrier i f) := by
  intro n
  rw [carrier_modCarrier]
  split
  · intro hp
    rw [hf] at hp
    cases hp
  · rename_i hn
    intro hp
    obtain ⟨hcov, hnodup, hlen, htrim, hanchors⟩ := h n hp
    refine ⟨hcov, hnodup, hlen, htrim, fun x hx => ?_⟩
    have hxi : x ≠ i := fun e => hd n hn hp (e ▸ hx)
    rw [carrier_modCarrier_ne s f hxi]
    exact hanchors x hx

theorem Act.keeps_anchors {s t : State} (a : Act s t) (h : AnchorsOk s) : AnchorsOk t := by
  cases a with
  | move m => exact m.cascade.keeps_anchors h
  | provisions i owner role rail anchors trim hw => exact anchorsOk_writeCarrier h hw
  | clears i _ hd => exact anchorsOk_unprovision h (fun _ => rfl) hd
  | disables n _ => exact anchorsOk_modCarrier (s := unqueue n s) ((unqueue_cascade n s).keeps_anchors h) fun _ => rfl
  | sleeps n _ => exact anchorsOk_modCarrier (s := s) (f := Carrier.slept) h fun _ => rfl
  | pins n src v _ => exact anchorsOk_modCarrier h fun _ => rfl
  | enables n p _ _ => exact anchorsOk_modCarrier h fun _ => rfl
  | recovers n _ => exact anchorsOk_modCarrier h fun _ => rfl
  | reports n load _ _ => exact anchorsOk_modCarrier h fun _ => rfl
  | dwell n d _ => exact anchorsOk_modCarrier h fun _ => rfl
  | drains n _ => exact anchorsOk_modCarrier h fun _ => rfl
  | holdoff x v => exact anchorsOk_modCarrier h fun _ => rfl
  | resets addr =>
    intro n hp
    rw [resetState_carrier] at hp
    cases hp
  | _ => exact h

/-- Settles O52: a step is a run of elementary changes, and each of them keeps both laws. -/
theorem stepKeepsConfiguration : Obligations.StepKeepsConfiguration :=
  ⟨fun _ _ h hstep => (step_acts hstep).keeps (fun _ _ a => a.keeps_settings) h,
    fun _ _ h hstep => (step_acts hstep).keeps (fun _ _ a => a.keeps_anchors) h⟩

end Sys2Proof.Machine
end

/-! # Records, offer queues and sleep stack -/

section

namespace Sys2Proof.Machine

/-! ### Power states by group -/

theorem inExchange_iff (p : Power) : p.inExchange = true ↔ p = .offered ∨ p = .draining := by
  cases p <;> simp [Power.inExchange]

theorem inService_iff (p : Power) : p.inService = true ↔ p ≠ .offline ∧ p ≠ .faulted := by
  cases p <;> simp [Power.inService]

theorem ripe_needs {s : State} {n : Site} (h : ripe s n = true) :
    (s.carrier n).provisioned = true ∧ (s.carrier n).role = .capacity ∧ (s.carrier n).power = .active := by
  simp only [ripe, Bool.and_eq_true, beq_iff_eq] at h
  obtain ⟨⟨⟨⟨⟨⟨⟨⟨⟨hp, hr⟩, ha⟩, -⟩, -⟩, -⟩, -⟩, -⟩, -⟩, -⟩ := h
  exact ⟨hp, hr, ha⟩

/-! ### The law of one record, move by move -/

section Records

variable {c : Carrier}

/-- A dwell belongs to an ACTIVE CAPACITY carrier (R49). -/
theorem RecordOk.of_dwell (h : RecordOk c) (hd : c.dwell ≠ .absent) : c.power = .active ∧ c.role = .capacity := by
  obtain ⟨-, -, -, -, -, -, hdwell, -⟩ := h
  exact hdwell hd

/-- A record that is not provisioned is OFFLINE (R5). -/
theorem RecordOk.of_unprovisioned (h : RecordOk c) (hp : c.provisioned = false) : c.power = .offline := h.1 hp

theorem recordOk_activated (s : State) (h : RecordOk c) (hp : c.power.inExchange = true ∨ c.power = .waking) :
    RecordOk { c with
      power := .active, load := none, stale := false, staleTimer := none, dwell := .absent
      minAwake := startMinAwake s c.role, answerTimer := none, drainTimer := none, holdoff := none } := by
  obtain ⟨hprov, hcov, hcause, hans, hdrain, hstale, hdwell, hawake, hoff, hload⟩ := h
  rw [inExchange_iff] at hp
  have hrole : startMinAwake s c.role ≠ .absent → c.role = .capacity := by
    cases c.role <;> simp [startMinAwake]
  refine ⟨?_, ?_, ?_, ?_, ?_, ?_, ?_, hrole, ?_, ?_⟩ <;> grind [Power.sleepward]

theorem recordOk_offered (now : Time) (h : RecordOk c) (hp : c.power = .active) (hr : c.role = .capacity) :
    RecordOk (c := { c with
      token := c.token + 1, power := .offered, dwell := .absent, ripeTime := none, answerTimer := some now }) := by
  obtain ⟨hprov, hcov, hcause, hans, hdrain, hstale, hdwell, hawake, hoff, hload⟩ := h
  refine ⟨?_, ?_, ?_, ?_, ?_, ?_, ?_, ?_, ?_, ?_⟩ <;> grind

theorem recordOk_waking (p : PinSet) (h : RecordOk c) (hprov : c.provisioned = true)
    (hp : c.power = .asleep ∨ c.power = .offline ∨ c.power = .faulted) :
    RecordOk { c with pins := p, power := .waking, cause := none } := by
  obtain ⟨-, hcov, hcause, hans, hdrain, hstale, hdwell, hawake, hoff, hload⟩ := h
  refine ⟨?_, ?_, ?_, ?_, ?_, ?_, ?_, ?_, ?_, ?_⟩ <;> grind [Power.sleepward]

theorem recordOk_faulted (cause : FaultCause) (h : RecordOk c) (hp : c.power.inService = true) :
    RecordOk { c with
      power := .faulted, cause := some cause, staleTimer := none, dwell := .absent, answerTimer := none
      drainTimer := none, holdoff := none } := by
  obtain ⟨hprov, hcov, hcause, hans, hdrain, hstale, hdwell, hawake, hoff, hload⟩ := h
  rw [inService_iff] at hp
  refine ⟨?_, ?_, ?_, ?_, ?_, ?_, ?_, ?_, ?_, ?_⟩ <;> grind [Power.sleepward]

theorem recordOk_faultedOnRail (h : RecordOk c) (hp : c.power = .waking) :
    RecordOk { c with power := .faulted, cause := some .rail } := by
  obtain ⟨hprov, hcov, hcause, hans, hdrain, hstale, hdwell, hawake, hoff, hload⟩ := h
  refine ⟨?_, ?_, ?_, ?_, ?_, ?_, ?_, ?_, ?_, ?_⟩ <;> grind [Power.sleepward]

theorem recordOk_stale (h : RecordOk c) (hp : c.power = .active) :
    RecordOk { c with staleTimer := none, stale := true, dwell := .absent } := by
  obtain ⟨hprov, hcov, hcause, hans, hdrain, hstale, hdwell, hawake, hoff, hload⟩ := h
  exact ⟨hprov, hcov, hcause, hans, hdrain, by simp, by simp, hawake, by simp [hp], hload⟩

theorem recordOk_staleStopped (h : RecordOk c) : RecordOk { c with staleTimer := none } := by
  obtain ⟨hprov, hcov, hcause, hans, hdrain, hstale, hdwell, hawake, hoff, hload⟩ := h
  exact ⟨hprov, hcov, hcause, hans, hdrain, by simp, hdwell, hawake, hoff, hload⟩

theorem recordOk_dwell {d : Dwell} (h : RecordOk c) (hd : d = c.dwell ∨ c.role = .capacity ∧ c.power = .active) :
    RecordOk { c with dwell := d } := by
  obtain ⟨hprov, hcov, hcause, hans, hdrain, hstale, hdwell, hawake, hoff, hload⟩ := h
  refine ⟨hprov, hcov, hcause, hans, hdrain, hstale, fun hne => ?_, hawake, hoff, hload⟩
  rcases hd with rfl | ⟨hr, hp⟩
  · exact hdwell hne
  · exact ⟨hp, hr⟩

theorem recordOk_minAwake (m : MinAwake) (h : RecordOk c) (hm : c.minAwake ≠ .absent) :
    RecordOk { c with minAwake := m } := by
  obtain ⟨hprov, hcov, hcause, hans, hdrain, hstale, hdwell, hawake, hoff, hload⟩ := h
  refine ⟨hprov, hcov, hcause, hans, hdrain, hstale, hdwell, fun _ => hawake hm, fun hp => ?_, hload⟩
  obtain ⟨-, -, -, absent⟩ := hoff hp
  exact absurd absent hm

theorem recordOk_answerStopped (h : RecordOk c) (hp : c.power ≠ .offered) :
    RecordOk { c with answerTimer := none } := by
  obtain ⟨hprov, hcov, hcause, hans, hdrain, hstale, hdwell, hawake, hoff, hload⟩ := h
  exact ⟨hprov, hcov, hcause, by simp [hp], hdrain, hstale, hdwell, hawake, hoff, hload⟩

theorem recordOk_drainStopped (h : RecordOk c) (hp : c.power ≠ .draining) :
    RecordOk { c with drainTimer := none } := by
  obtain ⟨hprov, hcov, hcause, hans, hdrain, hstale, hdwell, hawake, hoff, hload⟩ := h
  exact ⟨hprov, hcov, hcause, hans, by simp [hp], hstale, hdwell, hawake, hoff, hload⟩

theorem pinSet_empty_put (src : PinSource) : PinSet.empty.put src false = PinSet.empty := by cases src <;> rfl

theorem recordOk_pinned {src : PinSource} {v : Bool} (h : RecordOk c) (hv : c.power = .offline → v = false) :
    RecordOk { c with pins := c.pins.put src v } := by
  obtain ⟨hprov, hcov, hcause, hans, hdrain, hstale, hdwell, hawake, hoff, hload⟩ := h
  refine ⟨hprov, hcov, hcause, hans, hdrain, hstale, hdwell, hawake, fun hp => ⟨?_, (hoff hp).2⟩, hload⟩
  rw [hv hp, (hoff hp).1, pinSet_empty_put]

theorem recordOk_reported {load : Nat} (now : Time) (h : RecordOk c)
    (hp : c.power = .active ∨ c.power = .offered ∨ c.power = .draining)
    (hl : (∀ v ∈ c.load, v ≤ 16000) → load ≤ 16000) :
    RecordOk { c with load := some load, stale := false, staleTimer := some now } := by
  obtain ⟨hprov, hcov, hcause, hans, hdrain, hstale, hdwell, hawake, hoff, hload⟩ := h
  refine ⟨hprov, hcov, hcause, hans, hdrain, fun _ => ⟨hp, rfl⟩, hdwell, hawake, fun ho => ?_, ?_⟩
  · rcases hp with hp | hp | hp <;> cases hp.symm.trans ho
  · rintro _ ⟨⟩
    exact hl hload

theorem recordOk_draining (now : Time) (h : RecordOk c) (hp : c.power = .offered) :
    RecordOk { c with power := .draining, answerTimer := none, drainTimer := some now } := by
  obtain ⟨hprov, hcov, hcause, hans, hdrain, hstale, hdwell, hawake, hoff, hload⟩ := h
  refine ⟨?_, ?_, ?_, ?_, ?_, ?_, ?_, ?_, ?_, ?_⟩ <;> grind [Power.sleepward]

theorem recordOk_slept (h : RecordOk c) (hp : c.power.inExchange = true) : RecordOk c.slept := by
  obtain ⟨hprov, hcov, hcause, hans, hdrain, hstale, hdwell, hawake, hoff, hload⟩ := h
  rw [inExchange_iff] at hp
  refine ⟨?_, ?_, ?_, ?_, ?_, ?_, ?_, ?_, ?_, ?_⟩ <;> grind [Power.sleepward, Carrier.slept]

theorem recordOk_disabled (c : Carrier) : RecordOk c.disabled := by
  simp [RecordOk, Carrier.disabled, Power.sleepward]

/-- An OFFLINE record holds nothing that depends on its provisioning. -/
theorem recordOk_reprovisioned (provisioned : Bool) (owner : Tenant) (role : Role) (rail : RailId) (anchors : List Site)
    (trim : Int) (h : RecordOk c) (hp : c.power = .offline) :
    RecordOk { c with
      provisioned := provisioned, owner := owner, role := role, rail := rail, anchors := anchors, trim := trim } := by
  obtain ⟨hprov, hcov, hcause, hans, hdrain, hstale, hdwell, hawake, hoff, hload⟩ := h
  refine ⟨?_, ?_, ?_, ?_, ?_, ?_, ?_, ?_, ?_, ?_⟩ <;> grind [Power.sleepward]

end Records

/-! ### The laws of the carriers, by name -/

theorem CarriersOk.record {s : State} (h : CarriersOk s) (n : Site) : RecordOk (s.carrier n) := h.1 n

theorem CarriersOk.queue_nodup {s : State} (h : CarriersOk s) (u : Tenant) : (s.port u).offerQueue.Nodup := (h.2.1 u).1

theorem CarriersOk.of_queued {s : State} (h : CarriersOk s) {u : Tenant} {n : Site} (hn : n ∈ (s.port u).offerQueue) :
    (s.carrier n).provisioned = true ∧ (s.carrier n).owner = u ∧ (s.carrier n).role = .capacity ∧
      (s.carrier n).power = .active :=
  (h.2.1 u).2 n hn

theorem CarriersOk.stack_nodup {s : State} (h : CarriersOk s) : s.stack.Nodup := h.2.2.1

theorem CarriersOk.mem_stack {s : State} (h : CarriersOk s) (n : Site) : n ∈ s.stack ↔ (s.carrier n).power = .asleep :=
  h.2.2.2 n

/-! ### The laws of the carriers after an update -/

/-- Carrier n is in no offer queue. -/
def Unqueued (s : State) (n : Site) : Prop := ∀ u, n ∉ (s.port u).offerQueue

theorem unqueued_of_power {s : State} {n : Site} (h : CarriersOk s) (hp : (s.carrier n).power ≠ .active) :
    Unqueued s n :=
  fun u hn => by
    obtain ⟨-, -, -, active⟩ := h.of_queued (u := u) hn
    exact hp active

/-- One record is updated, it and others may leave offer queues, and the stack follows the record. -/
theorem CarriersOk.update {s t : State} (n : Site) (h : CarriersOk s) (others : ∀ m, m ≠ n → t.carrier m = s.carrier m)
    (record : RecordOk (t.carrier n)) (queues : ∀ u, (t.port u).offerQueue.Sublist (s.port u).offerQueue)
    (queued : ∀ u, n ∈ (t.port u).offerQueue → (t.carrier n).provisioned = true ∧ (t.carrier n).owner = u ∧
      (t.carrier n).role = .capacity ∧ (t.carrier n).power = .active)
    (nodup : t.stack.Nodup) (stack : ∀ m, m ≠ n → (m ∈ t.stack ↔ m ∈ s.stack))
    (sleeper : n ∈ t.stack ↔ (t.carrier n).power = .asleep) : CarriersOk t := by
  obtain ⟨records, queueLaw, -, sleepers⟩ := h
  refine ⟨fun m => ?_, fun u => ⟨(queueLaw u).1.sublist (queues u), fun m hm => ?_⟩, nodup, fun m => ?_⟩
  · by_cases hmn : m = n
    · rw [hmn]; exact record
    · rw [others m hmn]; exact records m
  · by_cases hmn : m = n
    · subst hmn; exact queued u hm
    · rw [others m hmn]; exact (queueLaw u).2 m ((queues u).subset hm)
  · by_cases hmn : m = n
    · rw [hmn]; exact sleeper
    · rw [stack m hmn, others m hmn]; exact sleepers m

/-- An update that leaves what the queues and the stack look at. -/
theorem carriersOk_modCarrier {s : State} {n : Site} {f : Carrier → Carrier} (h : CarriersOk s)
    (hf : ∀ c, (f c).provisioned = c.provisioned ∧ (f c).owner = c.owner ∧ (f c).role = c.role ∧ (f c).power = c.power)
    (hr : RecordOk (f (s.carrier n))) : CarriersOk (s.modCarrier n f) := by
  obtain ⟨hprov, howner, hrole, hpower⟩ := hf (s.carrier n)
  refine CarriersOk.update n h (fun m hm => carrier_modCarrier_ne s f hm) ?_ (fun _ => .refl _) (fun u hn => ?_)
    h.stack_nodup (fun _ _ => .rfl) ?_
  · rwa [carrier_modCarrier_same]
  · rw [carrier_modCarrier_same, hprov, howner, hrole, hpower]
    exact h.of_queued hn
  · rw [carrier_modCarrier_same, hpower]
    exact h.mem_stack n

/-- An update that moves a carrier that is not queued, neither from ASLEEP nor to it. -/
theorem carriersOk_moved {s : State} {n : Site} {f : Carrier → Carrier} (h : CarriersOk s) (hq : Unqueued s n)
    (hp : (s.carrier n).power ≠ .asleep) (hp' : (f (s.carrier n)).power ≠ .asleep) (hr : RecordOk (f (s.carrier n))) :
    CarriersOk (s.modCarrier n f) := by
  refine CarriersOk.update n h (fun m hm => carrier_modCarrier_ne s f hm) ?_ (fun _ => .refl _)
    (fun u hn => absurd hn (hq u)) h.stack_nodup (fun _ _ => .rfl) ?_
  · rwa [carrier_modCarrier_same]
  · rw [carrier_modCarrier_same]
    exact ⟨fun hn => absurd ((h.mem_stack n).1 hn) hp, fun ha => absurd ha hp'⟩

/-- An update that moves a carrier that is not queued and takes it off the stack. -/
theorem carriersOk_leftStack {s : State} {n : Site} {f : Carrier → Carrier} (h : CarriersOk s) (hq : Unqueued s n)
    (hp : (f (s.carrier n)).power ≠ .asleep) (hr : RecordOk (f (s.carrier n))) :
    CarriersOk { s.modCarrier n f with stack := s.stack.filter (· != n) } := by
  have same : State.carrier { s.modCarrier n f with stack := s.stack.filter (· != n) } n = f (s.carrier n) :=
    carrier_modCarrier_same s n f
  refine CarriersOk.update n h (fun m hm => carrier_modCarrier_ne s f hm) ?_ (fun _ => .refl _)
    (fun u hn => absurd hn (hq u)) (h.stack_nodup.filter _) (fun m hm => by simp [hm]) ?_
  · rwa [same]
  · rw [same]
    simp [hp]

theorem carriersOk_modPort {s : State} {t : Tenant} {f : Port → Port} (h : CarriersOk s)
    (hq : (f (s.port t)).offerQueue.Sublist (s.port t).offerQueue) : CarriersOk (s.modPort t f) := by
  refine ⟨h.1, fun u => ?_, h.2.2⟩
  have sub : ((s.modPort t f).port u).offerQueue.Sublist (s.port u).offerQueue := by
    rw [port_modPort]
    split
    · rename_i hu; subst hu; exact hq
    · exact .refl _
  exact ⟨(h.queue_nodup u).sublist sub, fun n hn => h.of_queued (sub.subset hn)⟩

theorem carriersOk_post {s : State} (t : Tenant) (x : Notice) (h : CarriersOk s) : CarriersOk (post t x s) :=
  carriersOk_modPort h (by split <;> exact .refl _)

theorem carriersOk_unqueue {s : State} (n : Site) (h : CarriersOk s) : CarriersOk (unqueue n s) :=
  carriersOk_modCarrier (carriersOk_modPort h (by exact List.filter_sublist)) (fun _ => by exact ⟨rfl, rfl, rfl, rfl⟩)
    (h.record n)

theorem offerQueue_unqueue (s : State) (n : Site) (u : Tenant) : ((unqueue n s).port u).offerQueue =
    if u = (s.carrier n).owner then (s.port u).offerQueue.filter (· != n) else (s.port u).offerQueue := by
  rw [unqueue, port_modCarrier, port_modPort]
  split <;> rfl

theorem carrier_unqueue_same (s : State) (n : Site) :
    (unqueue n s).carrier n = { s.carrier n with ripeTime := none } :=
  carrier_modCarrier_same _ n _

theorem carrier_unqueue_ne (s : State) {m n : Site} (h : m ≠ n) : (unqueue n s).carrier m = s.carrier m :=
  carrier_modCarrier_ne _ _ h

theorem unqueued_unqueue {s : State} (n : Site) (h : QueuesOk s) : Unqueued (unqueue n s) n := by
  intro u hn
  rw [offerQueue_unqueue] at hn
  split at hn
  · simp at hn
  · rename_i hu
    obtain ⟨-, owner, -⟩ := (h u).2 n hn
    exact hu owner.symm

/-- Joining the queue is the one move that makes a queue longer: the carrier is ripe and not yet there. -/
theorem carriersOk_joinQueue {s : State} {n : Site} (h : CarriersOk s) (hr : ripe s n = true)
    (hq : n ∉ (s.port (s.carrier n).owner).offerQueue) : CarriersOk (joinQueue n s) := by
  obtain ⟨hprov, hrole, hactive⟩ := ripe_needs hr
  have queued : CarriersOk (s.modPort (s.carrier n).owner fun p => { p with offerQueue := p.offerQueue ++ [n] }) := by
    refine ⟨h.1, fun u => ?_, h.2.2⟩
    rw [port_modPort]
    split
    · rename_i hu
      subst hu
      refine ⟨List.nodup_append.2 ⟨h.queue_nodup _, List.nodup_singleton n, ?_⟩, fun m hm => ?_⟩
      · intro a ha b hb
        rw [List.mem_singleton] at hb
        rintro rfl
        exact hq (hb ▸ ha)
      · rcases List.mem_append.1 hm with hm | hm
        · exact h.of_queued hm
        · obtain rfl := List.mem_singleton.1 hm
          exact ⟨hprov, rfl, hrole, hactive⟩
    · exact h.2.1 u
  exact carriersOk_modCarrier queued (fun _ => by exact ⟨rfl, rfl, rfl, rfl⟩) (h.record n)

theorem carriersOk_issueOffer {s : State} {t : Tenant} {n : Site} {rest : List Site} (h : CarriersOk s)
    (hq : (s.port t).offerQueue = n :: rest) :
    CarriersOk (issueOffer n (s.modPort t fun p => { p with offerQueue := rest })) := by
  have hn : n ∈ (s.port t).offerQueue := hq ▸ List.mem_cons_self
  obtain ⟨hprov, howner, hrole, hactive⟩ := h.of_queued hn
  have hnodup := h.queue_nodup t
  rw [hq, List.nodup_cons] at hnodup
  have unqueued : Unqueued (s.modPort t fun p => { p with offerQueue := rest }) n := by
    intro u hu
    rw [port_modPort] at hu
    split at hu
    · exact hnodup.1 hu
    · rename_i hut
      obtain ⟨-, owner, -⟩ := h.of_queued (u := u) hu
      exact hut (owner.symm.trans howner)
  refine carriersOk_post _ _ (carriersOk_moved (carriersOk_modPort h ?_) unqueued ?_ ?_ ?_)
  · rw [hq]; exact List.sublist_cons_self n rest
  · simp [hactive]
  · simp
  · exact recordOk_offered s.now (h.record n) hactive hrole

theorem carriersOk_enterActive {s : State} {n : Site} (h : CarriersOk s)
    (hp : (s.carrier n).power.inExchange = true ∨ (s.carrier n).power = .waking) : CarriersOk (enterActive n s) := by
  have awake : (s.carrier n).power ≠ .active ∧ (s.carrier n).power ≠ .asleep := by
    rw [inExchange_iff] at hp
    rcases hp with (hp | hp) | hp <;> simp [hp]
  refine carriersOk_unqueue n (carriersOk_moved h (unqueued_of_power h awake.1) awake.2 ?_ ?_)
  · simp
  · exact recordOk_activated s (h.record n) hp

theorem carriersOk_emptyQueue {s : State} (t : Tenant) (h : CarriersOk s) : CarriersOk (emptyQueue t s) :=
  carriersOk_modPort
    (forList_induction CarriersOk _
      (fun n _ hu => carriersOk_modCarrier hu (fun _ => by exact ⟨rfl, rfl, rfl, rfl⟩) (by exact hu.record n)) _ s h)
    (List.nil_sublist _)

/-- The move to ASLEEP with its push on the stack (R67, R87). -/
theorem carriersOk_sleeps {s : State} {n : Site} (h : CarriersOk s) (hp : (s.carrier n).power.inExchange = true) :
    CarriersOk { s.modCarrier n Carrier.slept with stack := n :: s.stack } := by
  have awake : (s.carrier n).power ≠ .active ∧ (s.carrier n).power ≠ .asleep := by
    rw [inExchange_iff] at hp
    rcases hp with hp | hp <;> simp [hp]
  have off : n ∉ s.stack := fun hn => awake.2 ((h.mem_stack n).1 hn)
  have same := carrier_modCarrier_same s n Carrier.slept
  refine CarriersOk.update n h (fun m hm => carrier_modCarrier_ne s Carrier.slept hm) ?_ (fun _ => .refl _)
    (fun u hn => absurd hn (unqueued_of_power h awake.1 u)) (List.nodup_cons.2 ⟨off, h.stack_nodup⟩)
    (fun m hm => by simp [hm]) ?_
  · exact same ▸ recordOk_slept (h.record n) hp
  · exact ⟨fun _ => congrArg Carrier.power same, fun _ => List.mem_cons_self⟩

/-! ### Every change keeps the laws -/

theorem Ease.keeps_carriers {s t : State} (e : Ease s t) (h : CarriersOk s) : CarriersOk t := by
  cases e with
  | notice t x _ => exact carriersOk_post t x h
  | leaves n => exact carriersOk_unqueue n h
  | joins n hr hq => exact carriersOk_joinQueue h hr hq
  | offers t n rest hq _ => exact carriersOk_issueOffer h hq
  | activates n hp => exact carriersOk_enterActive h hp
  | settles x _ _ => exact carriersOk_modCarrier h (fun _ => ⟨rfl, rfl, rfl, rfl⟩) (h.record x)

theorem grant_carriersOk {s : State} (h : CarriersOk s) : CarriersOk (grant s) := by
  rcases grant_cases s with ⟨r, _, _, _, hg⟩ | ⟨hg, _⟩ <;> rw [hg] <;> exact h

theorem provisioned_of_power {s : State} {n : Site} (h : CarriersOk s) (hp : (s.carrier n).power ≠ .offline) :
    (s.carrier n).provisioned = true := by
  by_contra hn
  exact hp ((h.record n).of_unprovisioned (by simpa using hn))

theorem Move.keeps_carriers {s t : State} (m : Move s t) (h : CarriersOk s) : CarriersOk t := by
  cases m with
  | ease e => exact e.keeps_carriers h
  | wakes n hp =>
    have hprov := provisioned_of_power h (n := n) (by simp [hp])
    have unqueued : Unqueued s n := unqueued_of_power h (by simp [hp])
    exact carriersOk_leftStack (f := fun c => { c with power := .waking, cause := none }) h unqueued (by simp)
      (recordOk_waking _ (h.record n) hprov (.inl hp))
  | queues r cls _ => cases cls <;> exact grant_carriersOk h
  | meetsFault n hp _ =>
    exact carriersOk_moved h (unqueued_of_power h (by simp [hp])) (by simp [hp]) (by simp)
      (recordOk_faultedOnRail (h.record n) hp)
  | faults n cause hp =>
    have leaves := carriersOk_unqueue n h
    refine carriersOk_leftStack leaves (unqueued_unqueue n h.2.1) (by simp) ?_
    rw [carrier_unqueue_same]
    exact recordOk_faulted cause (h.record n) hp
  | empties t => exact carriersOk_emptyQueue t h
  | stales n hp => exact carriersOk_modCarrier h (fun _ => ⟨rfl, rfl, rfl, rfl⟩) (recordOk_stale (h.record n) hp)
  | staleStops n => exact carriersOk_modCarrier h (fun _ => ⟨rfl, rfl, rfl, rfl⟩) (recordOk_staleStopped (h.record n))
  | dwells n st hd =>
    obtain ⟨hactive, hrole⟩ := (h.record n).of_dwell (by simp [hd])
    exact carriersOk_modCarrier h (fun _ => ⟨rfl, rfl, rfl, rfl⟩) (recordOk_dwell (h.record n) (.inr ⟨hrole, hactive⟩))
  | awakes n e x hm =>
    exact carriersOk_modCarrier h (fun _ => ⟨rfl, rfl, rfl, rfl⟩) (recordOk_minAwake _ (h.record n) (by simp [hm]))
  | answerStops n hp =>
    exact carriersOk_modCarrier h (fun _ => ⟨rfl, rfl, rfl, rfl⟩) (recordOk_answerStopped (h.record n) hp)
  | drainStops n hp =>
    exact carriersOk_modCarrier h (fun _ => ⟨rfl, rfl, rfl, rfl⟩) (recordOk_drainStopped (h.record n) hp)
  | holdoffEnds n => exact carriersOk_modCarrier h (fun _ => ⟨rfl, rfl, rfl, rfl⟩) (h.record n)
  | _ => exact h

theorem carriersOk_of_reset {s : State} (hc : ∀ n, s.carrier n = Carrier.reset)
    (hq : ∀ u, (s.port u).offerQueue = []) (hs : s.stack = []) : CarriersOk s := by
  refine ⟨fun n => ?_, fun u => ?_, ?_, fun n => ?_⟩
  · rw [hc]; decide
  · rw [hq]; simp
  · rw [hs]; exact List.nodup_nil
  · rw [hc, hs]; simp [Carrier.reset]

theorem resetState_carriersOk (addr : Nat) (s : State) : CarriersOk (resetState addr s) := by
  refine carriersOk_of_reset (resetState_carrier addr s) (fun u => ?_) rfl
  obtain ⟨level, hu⟩ := resetState_port addr s u
  rw [hu]; rfl

theorem Act.keeps_carriers {s t : State} (a : Act s t) (h : CarriersOk s) : CarriersOk t := by
  cases a with
  | move m => exact m.keeps_carriers h
  | port t f _ hq =>
    refine carriersOk_modPort h ?_
    rcases hq (s.port t) with hq | hq
    · rw [hq]
    · rw [hq]; exact List.nil_sublist _
  | provisions i owner role rail anchors trim hw =>
    have offline : (s.carrier i).power = .offline := by
      by_cases hp : (s.carrier i).provisioned = true
      · exact hw.idle hp
      · exact (h.record i).of_unprovisioned (by simpa using hp)
    exact carriersOk_moved h (unqueued_of_power h (by simp [offline])) (by simp [offline]) (by simp [offline])
      (recordOk_reprovisioned _ _ _ _ _ _ (h.record i) offline)
  | clears i offline _ =>
    exact carriersOk_moved h (unqueued_of_power h (by simp [offline])) (by simp [offline]) (by simp [offline])
      (recordOk_reprovisioned _ _ _ _ _ _ (h.record i) offline)
  | pins n src v hv => exact carriersOk_modCarrier h (fun _ => ⟨rfl, rfl, rfl, rfl⟩) (recordOk_pinned (h.record n) hv)
  | enables n p hprov hp =>
    exact carriersOk_moved h (unqueued_of_power h (by simp [hp])) (by simp [hp]) (by simp)
      (recordOk_waking p (h.record n) hprov (.inr (.inl hp)))
  | recovers n hp =>
    have hprov := provisioned_of_power h (n := n) (by simp [hp])
    exact carriersOk_moved h (unqueued_of_power h (by simp [hp])) (by simp [hp]) (by simp)
      (recordOk_waking _ (h.record n) hprov (.inr (.inr hp)))
  | reports n load hp hl =>
    exact carriersOk_modCarrier h (fun _ => ⟨rfl, rfl, rfl, rfl⟩) (recordOk_reported s.now (h.record n) hp hl)
  | dwell n d hd => exact carriersOk_modCarrier h (fun _ => ⟨rfl, rfl, rfl, rfl⟩) (recordOk_dwell (h.record n) hd)
  | drains n hp =>
    exact carriersOk_moved h (unqueued_of_power h (by simp [hp])) (by simp [hp]) (by simp)
      (recordOk_draining s.now (h.record n) hp)
  | sleeps n hp => exact carriersOk_sleeps h hp
  | disables n _ =>
    exact carriersOk_leftStack (carriersOk_unqueue n h) (unqueued_unqueue n h.2.1) (by simp [Carrier.disabled])
      (recordOk_disabled _)
  | holdoff x v => exact carriersOk_modCarrier h (fun _ => ⟨rfl, rfl, rfl, rfl⟩) (h.record x)
  | resets addr => exact resetState_carriersOk addr s
  | _ => exact h

/-- Settles O53: a step is a run of elementary changes, and each of them keeps the laws of the carriers. -/
theorem stepKeepsCarriers : Obligations.StepKeepsCarriers :=
  fun _ _ h hstep => (step_acts hstep).keeps (fun _ _ a => a.keeps_carriers) h

end Sys2Proof.Machine
end

/-! # The carrier table's requests -/

section

namespace Sys2Proof.Machine

/-! ### Numbers and codes -/

theorem siteOf_val (i : Site) : siteOf i.val = some i := siteOf_eq_some.2 rfl

theorem siteOf_of_le {n : Nat} (h : 32 ≤ n) : siteOf n = none := by
  simp [siteOf, h]

theorem provisionedSite_of_not {s : State} {i : Site} (h : (s.carrier i).provisioned = false) :
    provisionedSite s i.val = none := by
  simp [provisionedSite, siteOf_val, h]

theorem provisionedSite_of {s : State} {i : Site} (h : ¬ (s.carrier i).provisioned = false) :
    provisionedSite s i.val = some i :=
  provisionedSite_eq_some.2 ⟨rfl, by simpa using h⟩

theorem provisionedSite_of_le (s : State) {n : Nat} (h : 32 ≤ n) : provisionedSite s n = none := by
  rw [provisionedSite, siteOf_of_le h]
  rfl

theorem tenantOf_code (t : Tenant) : tenantOf (tenantCode t) = some t := by cases t <;> rfl

theorem tenantOf_of_lt {code : Nat} (h : 2 < code) : tenantOf code = none := by
  obtain ⟨k, rfl⟩ := Nat.exists_eq_add_of_lt h
  rw [show 2 + k + 1 = k + 3 by omega]
  rfl

theorem exists_tenantCode {code : Nat} (h : code ≤ 2) : ∃ t, code = tenantCode t := by
  interval_cases code
  · exact ⟨.a, rfl⟩
  · exact ⟨.b, rfl⟩
  · exact ⟨.c, rfl⟩

theorem tenantCode_inj {t u : Tenant} : tenantCode t = tenantCode u ↔ t = u := by
  cases t <;> cases u <;> simp [tenantCode]

theorem roleOf_code (r : Role) : roleOf r.code = some r := by cases r <;> rfl

theorem roleOf_of_lt {code : Nat} (h : 1 < code) : roleOf code = none := by
  obtain ⟨k, rfl⟩ := Nat.exists_eq_add_of_lt h
  rw [show 1 + k + 1 = k + 2 by omega]
  rfl

theorem exists_roleCode {code : Nat} (h : code ≤ 1) : ∃ r : Role, code = r.code := by
  interval_cases code
  · exact ⟨.coverage, rfl⟩
  · exact ⟨.capacity, rfl⟩

theorem railOf_val (r : RailId) : railOf r.val = some r := by simp [railOf]

theorem railOf_of_lt {code : Nat} (h : 3 < code) : railOf code = none := by
  simp [railOf, Nat.succ_le_iff.2 h]

/-! ### SET_CARRIER -/

/-- An anchor number that does not fit: no site, the record itself, or a record that cannot be its anchor (R13). -/
theorem anchorFits_eq_false (s : State) (n : Site) (owner : Tenant) (a : Nat) :
    anchorFits s n owner a = false ↔ 32 ≤ a ∨ a = n.val ∨ ∃ x : Site, x.val = a ∧
      ((s.carrier x).provisioned = false ∨ (s.carrier x).role = .capacity ∨
        tenantCode (s.carrier x).owner ≠ tenantCode owner) := by
  by_cases ha : a < 32
  · obtain ⟨x, rfl⟩ : ∃ x : Site, x.val = a := ⟨⟨a, ha⟩, rfl⟩
    have hrole : ∀ r : Role, (r = .coverage) = ¬ (r = .capacity) := by intro r; cases r <;> simp
    simp only [anchorFits, siteOf_val, Bool.and_eq_false_iff, bne_eq_false_iff_eq, beq_eq_false_iff_ne, ne_eq,
      tenantCode_inj, Nat.not_le.2 ha, false_or, hrole, not_not, Fin.val_inj, exists_eq_left, or_assoc]
  · rw [anchorFits, siteOf_of_le (Nat.not_lt.1 ha)]
    simp [Nat.not_lt.1 ha]

theorem anchorsFit_iff_codes (s : State) (i : Site) (t : Tenant) (ro : Role) (count : Nat) (slots : List Nat)
    (hne : slots ≠ []) : anchorsFit s i t ro (slots.take count) = true ↔
      ¬ (ro.code = 0 ∧ count ≠ 0) ∧ ¬ (ro.code = 1 ∧ (¬ (slots.take count).Nodup ∨ ∃ a ∈ slots.take count,
        32 ≤ a ∨ a = i.val ∨ ∃ x : Site, x.val = a ∧ ((s.carrier x).provisioned = false ∨
          (s.carrier x).role = .capacity ∨ tenantCode (s.carrier x).owner ≠ tenantCode t))) := by
  simp only [← anchorFits_eq_false, anchorsFit_iff]
  cases ro <;> simp [Role.code, hne]

theorem dependentsKept_iff_codes (s : State) (i : Site) (t : Tenant) (ro : Role) :
    dependentsKept s i t ro = true ↔ ¬ ∃ m : Site, m ≠ i ∧ (s.carrier m).provisioned = true ∧
      i ∈ (s.carrier m).anchors ∧ (ro.code = 1 ∨ tenantCode t ≠ tenantCode (s.carrier i).owner) := by
  rw [dependentsKept_iff]
  cases ro <;> simp [Role.code, tenantCode_inj]

/-- With codes that are defined, the checks fail exactly on a broken condition of R13 step 3. -/
theorem setCarrier_checks_iff (s : State) (i : Site) (t : Tenant) (ro : Role) (ra : RailId) (count : Nat)
    (slots : List Nat) (trim : Int) (hne : slots ≠ []) :
    (count ≤ 3 && decide (-8 ≤ trim ∧ trim ≤ 7) && anchorsFit s i t ro (slots.take count) &&
        dependentsKept s i t ro) = true ↔
      ¬ SetCarrierBadField s i (tenantCode t) ro.code ra.val count slots trim := by
  have ht : tenantCode t ≤ 2 := by cases t <;> decide
  have hro : ro.code ≤ 1 := by cases ro <;> decide
  have hra : ra.val ≤ 3 := by omega
  simp only [Bool.and_eq_true, decide_eq_true_eq, anchorsFit_iff_codes s i t ro count slots hne,
    dependentsKept_iff_codes, SetCarrierBadField, not_or, Nat.not_lt, Int.not_lt, ht, hro, hra, true_and, and_assoc]

theorem setCarrierRule_of_le {n : Nat} (owner role rail count a0 a1 a2 : Nat) (trim : Int) (s : State) (h : 32 ≤ n) :
    setCarrierRule n owner role rail count a0 a1 a2 trim s = refuse .noSuch s := by
  rw [setCarrierRule, siteOf_of_le h]

/-- A code that names nothing is refused with BAD_FIELD. -/
theorem setCarrierRule_of_code {i : Site} {owner role rail count a0 a1 a2 : Nat} {trim : Int} {s : State}
    (hidle : ¬ ((s.carrier i).provisioned = true ∧ (s.carrier i).power ≠ .offline))
    (h : 2 < owner ∨ 1 < role ∨ 3 < rail) :
    setCarrierRule i.val owner role rail count a0 a1 a2 trim s = refuse .badField s := by
  simp only [setCarrierRule, siteOf_val, Bool.and_eq_true, bne_iff_ne, hidle, if_false]
  rcases h with h | h | h
  · rw [tenantOf_of_lt h]
  · rw [roleOf_of_lt h]
    cases tenantOf owner <;> rfl
  · rw [railOf_of_lt h]
    cases tenantOf owner <;> cases roleOf role <;> rfl

/-- With codes that are defined: BAD_FIELD, or the six fields are written. -/
theorem setCarrierRule_of_codes {i : Site} {t : Tenant} {ro : Role} {ra : RailId} {count a0 a1 a2 : Nat} {trim : Int}
    {s : State} (hidle : ¬ ((s.carrier i).provisioned = true ∧ (s.carrier i).power ≠ .offline)) :
    setCarrierRule i.val (tenantCode t) ro.code ra.val count a0 a1 a2 trim s =
      if SetCarrierBadField s i (tenantCode t) ro.code ra.val count [a0, a1, a2] trim then refuse .badField s
      else answerOk (writeCarrier i t ro ra (anchorSites ([a0, a1, a2].take count)) trim s) := by
  have idle : ((s.carrier i).provisioned && (s.carrier i).power != .offline) = false := by simpa using hidle
  simp only [setCarrierRule, siteOf_val, tenantOf_code, roleOf_code, railOf_val, idle, Bool.false_eq_true, if_false,
    setCarrier_checks_iff s i t ro ra count [a0, a1, a2] trim (List.cons_ne_nil _ _), ite_not]

/-- The anchor numbers of a taken SET_CARRIER are the sites written, in their order (R14). -/
theorem map_val_anchorSites_of_checks {s : State} {i : Site} {t : Tenant} {ro : Role} {ra : RailId} {count : Nat}
    {slots : List Nat} {trim : Int} (hne : slots ≠ [])
    (h : ¬ SetCarrierBadField s i (tenantCode t) ro.code ra.val count slots trim) :
    (anchorSites (slots.take count)).map Fin.val = slots.take count := by
  simp only [← setCarrier_checks_iff s i t ro ra count slots trim hne, Bool.and_eq_true] at h
  have fit := (anchorsFit_iff s i t ro _).1 h.1.2
  cases ro with
  | coverage => rw [fit.1 rfl]; rfl
  | capacity =>
    refine map_val_anchorSites fun a ha => ?_
    obtain ⟨x, hx, -⟩ := (anchorFits_iff s i t a).1 ((fit.2 rfl).2 a ha)
    exact ⟨x, hx⟩

/-- Settles O6, by the checks in their order: the number, the power state, codes that name nothing, and, with codes that
are defined, the conditions of R13 step 3. -/
theorem setCarrierChecksAndWrites : Obligations.SetCarrierChecksAndWrites := by
  intro n owner role rail count a0 a1 a2 trim s
  have run : exec (.setCarrier n owner role rail count a0 a1 a2 trim) s =
    .next (respond (setCarrierRule n owner role rail count a0 a1 a2 trim s)) := rfl
  simp only [run]
  refine ⟨fun h => by rw [setCarrierRule_of_le _ _ _ _ _ _ _ _ s h], ?_⟩
  rintro i rfl
  split
  · rename_i h
    simp [setCarrierRule, siteOf_val, h]
  · rename_i hidle
    by_cases codes : 2 < owner ∨ 1 < role ∨ 3 < rail
    · have bad : SetCarrierBadField s i owner role rail count [a0, a1, a2] trim := by
        rcases codes with h | h | h
        · exact .inl h
        · exact .inr (.inl h)
        · exact .inr (.inr (.inl h))
      rw [if_pos bad, setCarrierRule_of_code hidle codes]
    · simp only [not_or, Nat.not_lt] at codes
      obtain ⟨howner, hrole, hrail⟩ := codes
      obtain ⟨t, rfl⟩ := exists_tenantCode howner
      obtain ⟨ro, rfl⟩ := exists_roleCode hrole
      obtain ⟨ra, rfl⟩ : ∃ ra : RailId, rail = ra.val := ⟨⟨rail, by omega⟩, rfl⟩
      rw [setCarrierRule_of_codes hidle]
      split
      · rfl
      · rename_i good
        exact ⟨t, ro, ra, _, rfl, rfl, rfl, map_val_anchorSites_of_checks (List.cons_ne_nil _ _) good, rfl⟩

/-! ### CLEAR_CARRIER -/

/-- Settles O7, by the checks in their order. -/
theorem clearCarrierChecksAndWrites : Obligations.ClearCarrierChecksAndWrites := by
  intro n s
  have run : exec (.clearCarrier n) s = .next (respond (clearCarrierRule n s)) := rfl
  simp only [run]
  refine ⟨fun h => by rw [clearCarrierRule, provisionedSite_of_le s h], ?_⟩
  rintro i rfl
  split
  · rename_i hp
    rw [clearCarrierRule, provisionedSite_of_not hp]
  · rename_i hp
    simp only [clearCarrierRule, provisionedSite_of hp, bne_iff_ne, listedByOther_iff]
    split
    · rfl
    · split <;> rfl

/-! ### ENABLE -/

theorem enablePins_eq_ite (s : State) (n : Site) : enablePins s n =
    if (s.port (s.carrier n).owner).link = .linked then s
    else s.modCarrier n fun c => { c with pins := { c.pins with link := true } } := by
  simp only [enablePins, beq_iff_eq]
  rfl

theorem visible_iff (s : State) (t : Tenant) (n : Site) :
    visible s t n = true ↔ (s.port t).p0 = some (sliceOf n) ∨ (s.port t).p1 = some (sliceOf n) := by
  simp [visible]

/-- Settles O8, by the checks in their order. -/
theorem enableChecksAndWakes : Obligations.EnableChecksAndWakes := by
  intro n s
  have run : exec (.enable n) s = .next (respond (enableRule n s)) := rfl
  simp only [run]
  refine ⟨fun h => by rw [enableRule, provisionedSite_of_le s h], ?_⟩
  rintro i rfl
  split
  · rename_i hp
    rw [enableRule, provisionedSite_of_not hp]
  · rename_i hp
    have hidden : (!visible s (s.carrier i).owner i) = true ↔
        (s.port (s.carrier i).owner).p0 ≠ some (sliceOf i) ∧ (s.port (s.carrier i).owner).p1 ≠ some (sliceOf i) := by
      rw [Bool.not_eq_true', ← Bool.not_eq_true, visible_iff, not_or]
    simp only [enableRule, provisionedSite_of hp, bne_iff_ne, Bool.and_eq_true, beq_iff_eq, List.isEmpty_iff, hidden,
      enablePins_eq_ite]
    split
    · rfl
    · split
      · rfl
      · split <;> rfl

/-! ### SET_SLICES -/

theorem pointerOf_code (q : Option Slice) : pointerOf (pointerCode q) = some q := by
  cases q with
  | none => rfl
  | some sl => simp [pointerOf, pointerCode, orAbsent]

theorem pointerOf_of_lt {code : Nat} (h : 3 < code) (hn : code ≠ 0xFF) : pointerOf code = none := by
  simp [pointerOf, Nat.succ_le_iff.2 h, hn]

theorem wouldHide_iff (s : State) (t : Tenant) (q0 q1 : Option Slice) :
    wouldHide s t q0 q1 = true ↔ ∃ n : Site, (s.carrier n).provisioned = true ∧ (s.carrier n).owner = t ∧
      (s.carrier n).power ≠ .offline ∧ q0 ≠ some (sliceOf n) ∧ q1 ≠ some (sliceOf n) := by
  simp [wouldHide, mem_allSites, and_assoc]

theorem setSlicesRule_of_undefined {tenant v0 v1 : Nat} (s : State)
    (h : 2 < tenant ∨ (3 < v0 ∧ v0 ≠ 0xFF) ∨ (3 < v1 ∧ v1 ≠ 0xFF)) :
    setSlicesRule tenant v0 v1 s = refuse .badField s := by
  rw [setSlicesRule]
  rcases h with h | ⟨h, hn⟩ | ⟨h, hn⟩
  · rw [tenantOf_of_lt h]
  · rw [pointerOf_of_lt h hn]
    cases tenantOf tenant <;> rfl
  · rw [pointerOf_of_lt h hn]
    cases tenantOf tenant <;> cases pointerOf v0 <;> rfl

/-- Settles O10, by whether the three codes are defined and then by the checks in their order. -/
theorem setSlicesChecksAndWrites : Obligations.SetSlicesChecksAndWrites := by
  intro tenant v0 v1 s
  have run : exec (.setSlices tenant v0 v1) s = .next (respond (setSlicesRule tenant v0 v1 s)) := rfl
  simp only [run]
  refine ⟨fun h => by rw [setSlicesRule_of_undefined s h], ?_⟩
  rintro t q0 q1 rfl rfl rfl
  simp only [setSlicesRule, tenantOf_code, pointerOf_code, wouldHide_iff]
  split
  · rename_i hl
    simp [hl]
  · rename_i hl
    simp only [bne_iff_ne, hl, if_false]
    split
    · rfl
    · rw [not_not] at hl
      exact ⟨rfl, by simp [Port.canTake, hl]⟩

end Sys2Proof.Machine
end

/-! # DISABLE -/

section

namespace Sys2Proof.Machine

/-! ### A carrier out of service is left alone by every move -/

/-- A record in OFFLINE with every period and timer absent: no move has anything to do on it. -/
structure Still (c : Carrier) : Prop where
  power : c.power = .offline
  staleTimer : c.staleTimer = none
  dwell : c.dwell = .absent
  minAwake : c.minAwake = .absent
  ripeTime : c.ripeTime = none
  answerTimer : c.answerTimer = none
  drainTimer : c.drainTimer = none
  holdoff : c.holdoff = none

/-- Record n is c, and n is in no offer queue and not on the stack. -/
structure Aside (n : Site) (c : Carrier) (s : State) : Prop where
  record : s.carrier n = c
  unqueued : Unqueued s n
  unstacked : n ∉ s.stack

section Aside

variable {n : Site} {c : Carrier} {s : State}

theorem Aside.modCarrier {m : Site} {f : Carrier → Carrier} (h : Aside n c s) (hf : m = n → f c = c) :
    Aside n c (s.modCarrier m f) := by
  refine ⟨?_, h.unqueued, h.unstacked⟩
  rw [carrier_modCarrier]
  split
  · rename_i hnm
    rw [h.record, hf hnm.symm]
  · exact h.record

/-- A move whose guard asks for another power state is not about n. -/
theorem Aside.modCarrier_of_power {m : Site} {f : Carrier → Carrier} (h : Aside n c s) (hc : Still c)
    (hp : (s.carrier m).power ≠ .offline) : Aside n c (s.modCarrier m f) :=
  h.modCarrier fun e => absurd (by rw [e, h.record, hc.power]) hp

theorem Aside.modPort {t : Tenant} {f : Port → Port} (h : Aside n c s)
    (hf : (f (s.port t)).offerQueue ⊆ (s.port t).offerQueue) : Aside n c (s.modPort t f) := by
  refine ⟨h.record, fun u hn => ?_, h.unstacked⟩
  rw [port_modPort] at hn
  split at hn
  · rename_i hu
    subst hu
    exact h.unqueued u (hf hn)
  · exact h.unqueued u hn

theorem Aside.post (t : Tenant) (x : Notice) (h : Aside n c s) : Aside n c (post t x s) :=
  h.modPort (by split <;> exact List.Subset.refl _)

theorem Still.clearRipeTime (hc : Still c) : { c with ripeTime := none } = c := by
  rw [← hc.ripeTime]

theorem Aside.unqueue (m : Site) (h : Aside n c s) (hc : Still c) : Aside n c (unqueue m s) :=
  (h.modPort (by exact List.filter_sublist.subset)).modCarrier fun _ => hc.clearRipeTime

theorem Ease.keeps_aside {t : State} (e : Ease s t) (hc : Still c) (h : Aside n c s) : Aside n c t := by
  cases e with
  | notice t x _ => exact h.post t x
  | leaves m => exact h.unqueue m hc
  | joins m hr _ =>
    obtain ⟨-, -, active⟩ := ripe_needs hr
    have hmn : m ≠ n := by
      rintro rfl
      rw [h.record, hc.power] at active
      cases active
    refine ⟨(carrier_modCarrier_ne _ _ hmn.symm).trans h.record, fun u hn => ?_, h.unstacked⟩
    rw [joinQueue, port_modCarrier, port_modPort] at hn
    split at hn
    · rcases List.mem_append.1 hn with hn | hn
      · exact h.unqueued u hn
      · exact hmn (List.mem_singleton.1 hn).symm
    · exact h.unqueued u hn
  | offers t m rest hq _ =>
    have hmn : m ≠ n := fun e => h.unqueued t (by rw [hq, e]; exact List.mem_cons_self)
    have dequeued := h.modPort (t := t) (f := fun p => { p with offerQueue := rest })
      (by rw [hq]; exact List.subset_cons_self m rest)
    exact (dequeued.modCarrier fun e => absurd e hmn).post _ _
  | activates m hp =>
    refine (h.modCarrier_of_power hc fun ho => ?_).unqueue m hc
    simp [ho, Power.inExchange] at hp
  | settles x _ ha => exact h.modCarrier_of_power hc (by simp [ha])

theorem Aside.of_parts {t : State} (h : Aside n c s) (hcar : t.carriers = s.carriers) (hports : t.ports = s.ports)
    (hstack : t.stack = s.stack) : Aside n c t := by
  refine ⟨?_, fun u => ?_, ?_⟩
  · rw [State.carrier, hcar]; exact h.record
  · rw [State.port, hports]; exact h.unqueued u
  · rw [hstack]; exact h.unstacked

theorem Aside.filterStack (m : Site) (h : Aside n c s) : Aside n c { s with stack := s.stack.filter (· != m) } :=
  ⟨h.record, h.unqueued, fun hn => h.unstacked (List.mem_of_mem_filter hn)⟩

theorem Aside.grant (h : Aside n c s) : Aside n c (grant s) := by
  rcases grant_cases s with ⟨r, _, _, _, hg⟩ | ⟨hg, _⟩ <;> rw [hg]
  · exact h.of_parts rfl rfl rfl
  · exact h

theorem Move.keeps_aside {t : State} (m : Move s t) (hc : Still c) (h : Aside n c s) : Aside n c t := by
  cases m with
  | ease e => exact e.keeps_aside hc h
  | wakes m hp => exact (h.filterStack m).modCarrier_of_power hc (show (s.carrier m).power ≠ .offline by simp [hp])
  | queues r cls _ => cases cls <;> exact (h.of_parts (t := joinRamp r _ _) rfl rfl rfl).grant
  | meetsFault m hp _ => exact h.modCarrier_of_power hc (by simp [hp])
  | faults m cause hp =>
    have hmn : m ≠ n := by
      rintro rfl
      rw [h.record, hc.power] at hp
      cases hp
    exact ((h.unqueue m hc).modCarrier fun e => absurd e hmn).filterStack m
  | empties t =>
    refine Aside.modPort ?_ (List.nil_subset _)
    exact forList_induction (Aside n c) _ (fun m _ hu => hu.modCarrier fun _ => hc.clearRipeTime) _ s h
  | stales m hp => exact h.modCarrier_of_power hc (by simp [hp])
  | staleStops m => exact h.modCarrier fun _ => by rw [← hc.staleTimer]
  | dwells m st hd => exact h.modCarrier fun e => by rw [e, h.record, hc.dwell] at hd; cases hd
  | awakes m e x hm => exact h.modCarrier fun e => by rw [e, h.record, hc.minAwake] at hm; cases hm
  | answerStops m _ => exact h.modCarrier fun _ => by rw [← hc.answerTimer]
  | drainStops m _ => exact h.modCarrier fun _ => by rw [← hc.drainTimer]
  | holdoffEnds m => exact h.modCarrier fun _ => by rw [← hc.holdoff]
  | _ => exact h.of_parts rfl rfl rfl

end Aside

/-! ### The record's own part -/

/-- A record right after a DISABLE (R17). -/
def Carrier.outOfService (c : Carrier) : Carrier := { c.disabled with ripeTime := none }

theorem still_outOfService (c : Carrier) : Still c.outOfService := ⟨rfl, rfl, rfl, rfl, rfl, rfl, rfl, rfl⟩

/-- A DISABLE up to its notice: the record leaves queue and stack, its fields are reset. -/
def withdrawn (n : Site) (s : State) : State :=
  { (unqueue n s).modCarrier n Carrier.disabled with stack := s.stack.filter (· != n) }

theorem takeOffline_eq (n : Site) (s : State) :
    takeOffline n s = post (s.carrier n).owner (.offline n (noticeNumber (withdrawn n s) n)) (withdrawn n s) := rfl

theorem withdrawn_carrier_same (n : Site) (s : State) : (withdrawn n s).carrier n = (s.carrier n).outOfService := by
  change ((unqueue n s).modCarrier n Carrier.disabled).carrier n = _
  rw [carrier_modCarrier_same, carrier_unqueue_same]
  rfl

theorem withdrawn_carrier_ne (s : State) {m n : Site} (h : m ≠ n) : (withdrawn n s).carrier m = s.carrier m :=
  (carrier_modCarrier_ne (unqueue n s) Carrier.disabled h).trans (carrier_unqueue_ne s h)

theorem withdrawn_notices (n : Site) (s : State) :
    ((withdrawn n s).port (s.carrier n).owner).notices = (s.port (s.carrier n).owner).notices := by
  change ((unqueue n s).port (s.carrier n).owner).notices = _
  rw [unqueue, port_modCarrier, port_modPort_same]

theorem withdrawn_cascade (n : Site) (s : State) :
    Cascade (s.modCarrier n fun c => { c with pins := PinSet.empty }) (withdrawn n s) := by
  refine ⟨rfl, rfl, rfl, rfl, rfl, rfl, rfl, fun m => ?_, fun _ => rfl, (unqueue_cascade n s).ports⟩
  by_cases hm : m = n
  · subst hm
    rw [withdrawn_carrier_same, carrier_modCarrier_same]
    rfl
  · rw [withdrawn_carrier_ne s hm, carrier_modCarrier_ne _ _ hm]

theorem takeOffline_cascade (n : Site) (s : State) :
    Cascade (s.modCarrier n fun c => { c with pins := PinSet.empty }) (takeOffline n s) :=
  (withdrawn_cascade n s).trans (post_cascade _ _ _)

theorem takeOffline_aside (n : Site) (s : State) (h : QueuesOk s) :
    Aside n (s.carrier n).outOfService (takeOffline n s) := by
  refine Aside.post _ _ ⟨withdrawn_carrier_same n s, unqueued_unqueue n h, fun hn => ?_⟩
  exact absurd (List.of_mem_filter hn) (by simp)

theorem disableCarrier_aside (n : Site) (s : State) (h : QueuesOk s) :
    Aside n (s.carrier n).outOfService (disableCarrier n s) :=
  (disableCarrier_moves n s).keeps (fun _ _ m => m.keeps_aside (still_outOfService _)) (takeOffline_aside n s h)

/-! ### The rail of a sleeper -/

/-- Two tests that differ at one member of a list without repetitions. -/
theorem countP_eq_succ {α : Type} {p q : α → Bool} {x : α} (hp : p x = true) (hq : q x = false)
    (h : ∀ y, y ≠ x → p y = q y) : ∀ {l : List α}, l.Nodup → x ∈ l → l.countP p = l.countP q + 1
  | y :: l, hl, hx => by
    obtain ⟨hy, hl⟩ := List.nodup_cons.1 hl
    by_cases hyx : y = x
    · subst hyx
      have same : l.countP p = l.countP q := List.countP_congr fun z hz => by rw [h z fun e => hy (e ▸ hz)]
      simp [hp, hq, same]
    · have ih := countP_eq_succ hp hq h hl ((List.mem_cons.1 hx).resolve_left (Ne.symm hyx))
      simp only [List.countP_cons, ih, h y hyx]
      omega

theorem allSites_nodup : allSites.Nodup := by decide

theorem sleepersOn_takeOffline {s : State} {n : Site} (hprov : (s.carrier n).provisioned = true)
    (hp : (s.carrier n).power = .asleep) :
    sleepersOn s (s.carrier n).rail = sleepersOn (takeOffline n s) (s.carrier n).rail + 1 := by
  refine countP_eq_succ (x := n) ?_ ?_ (fun m hm => ?_) allSites_nodup (mem_allSites n)
  · simp [hprov, hp]
  · rw [takeOffline_eq, post, carrier_modPort, withdrawn_carrier_same]
    simp [Carrier.outOfService, Carrier.disabled]
  · rw [takeOffline_eq, post, carrier_modPort, withdrawn_carrier_ne s hm]

/-- A DISABLE of a sleeper has no consequence but on its rail. -/
theorem disableCarrier_of_asleep {s : State} {n : Site} (hp : (s.carrier n).power = .asleep) :
    disableCarrier n s = sleeperLeaves (s.carrier n).rail (takeOffline n s) := by
  simp [disableCarrier, railLoses, leftExchange, leftDraining, anchorLeaves, hp, Power.needs, Power.inExchange]

theorem sleeperLeaves_rail (q r : RailId) (s : State) : (sleeperLeaves r s).rail q =
    if q = r ∧ (s.rail q).state = .hold ∧ (s.rail q).held = true ∧ sleepersOn s q = 0 then
      { s.rail q with state := .off, graceTimer := none, held := false }
    else s.rail q := by
  rw [sleeperLeaves]
  by_cases hq : q = r
  · subst hq
    simp only [Bool.and_eq_true, beq_iff_eq, true_and, and_assoc]
    split
    · exact rail_modRail_same s q _
    · rfl
  · simp only [hq, false_and, if_false]
    split
    · exact rail_modRail_ne s _ hq
    · rfl

/-- The last sleeper of a held rail takes the rail to OFF (R109, R111). -/
theorem sleeperLeaves_rail_takeOffline {s : State} {n : Site} (hprov : (s.carrier n).provisioned = true)
    (hp : (s.carrier n).power = .asleep) (q : RailId) :
    (sleeperLeaves (s.carrier n).rail (takeOffline n s)).rail q =
      if q = (s.carrier n).rail ∧ (s.rail q).state = .hold ∧ (s.rail q).held = true ∧ sleepersOn s q = 1 then
        { s.rail q with state := .off, graceTimer := none, held := false }
      else s.rail q := by
  have hrail : (takeOffline n s).rail q = s.rail q := rfl
  rw [sleeperLeaves_rail, hrail]
  by_cases hq : q = (s.carrier n).rail
  · subst hq
    simp only [sleepersOn_takeOffline hprov hp, Nat.add_eq_right]
  · simp only [hq, false_and, if_false]

/-! ### The notice -/

theorem lowestLocal_cascade {s t : State} (h : Cascade s t) (u : Tenant) (n : Site) :
    lowestLocal t u n = lowestLocal s u n := by
  have hp0 : (t.port u).p0 = (s.port u).p0 :=
    (congrArg Port.p0 (h.ports u) : (t.port u).lasting.p0 = (s.port u).lasting.p0)
  have hp1 : (t.port u).p1 = (s.port u).p1 :=
    (congrArg Port.p1 (h.ports u) : (t.port u).lasting.p1 = (s.port u).lasting.p1)
  rw [lowestLocal, lowestLocal, hp0, hp1]

theorem noticeNumber_cascade {s t : State} (h : Cascade s t) (n : Site) : noticeNumber t n = noticeNumber s n := by
  have lasting := h.carriers n
  simp only [Carrier.lasting, Prod.mk.injEq] at lasting
  obtain ⟨-, owner, -⟩ := lasting
  rw [noticeNumber, noticeNumber, owner, lowestLocal_cascade h]

theorem graceTest_ports (r : RailId) (s : State) : (graceTest r s).ports = s.ports := by
  rw [graceTest]
  split
  · rfl
  · split <;> rfl

theorem railLoses_ports (was : Power) (r : RailId) (s : State) : (railLoses was r s).ports = s.ports := by
  have falls : (needFalls r s).ports = s.ports := by
    rw [needFalls]
    split
    · split
      · rw [enterHold]
        split
        · exact graceTest_ports r _
        · rfl
      all_goals rfl
    · rfl
  have leaves : (sleeperLeaves r s).ports = s.ports := by
    rw [sleeperLeaves]
    split <;> rfl
  rw [railLoses]
  split
  · exact falls
  · split
    · exact leaves
    · rfl

/-- A DISABLE of a CAPACITY carrier that is in no exchange reaches the rail controller only. -/
theorem disableCarrier_ports {s : State} {n : Site} (hr : (s.carrier n).role = .capacity)
    (hx : (s.carrier n).power.inExchange = false) : (disableCarrier n s).ports = (takeOffline n s).ports := by
  have hd : ((s.carrier n).power == .draining) = false := by
    cases hp : (s.carrier n).power <;> simp [hp, Power.inExchange] at hx ⊢
  simp [disableCarrier, leftExchange, leftDraining, anchorLeaves, hr, hx, hd, railLoses_ports]

theorem post_notices (t : Tenant) (x : Notice) (s : State) : ((post t x s).port t).notices =
    if (s.port t).link = .disabled then (s.port t).notices else joinNotices (s.port t).notices x := by
  rw [post, port_modPort_same]
  simp only [beq_iff_eq]
  split <;> rfl

theorem takeOffline_notices (n : Site) (s : State) :
    ((takeOffline n s).port (s.carrier n).owner).notices =
      if (s.port (s.carrier n).owner).link = .disabled then (s.port (s.carrier n).owner).notices
      else (s.port (s.carrier n).owner).notices.filter (fun y => y.about != some n) ++
        [.offline n (noticeNumber s n)] := by
  have number : noticeNumber (withdrawn n s) n = noticeNumber s n := by
    rw [noticeNumber_cascade (withdrawn_cascade n s)]
    simp [noticeNumber, lowestLocal]
  rw [takeOffline_eq, post_notices, (withdrawn_cascade n s).link, port_modCarrier, withdrawn_notices, number]
  rfl

/-- Settles O9: the record's own part puts it aside, no later move touches a record that is aside, and what follows is a
cascade; a sleeper's exit reaches its rail only, and that of a CAPACITY carrier in no exchange no port. -/
theorem disableTakesOffline : Obligations.DisableTakesOffline := by
  intro n s
  have run : exec (.disable n) s = .next (respond (disableRule n s)) := rfl
  simp only [run]
  refine ⟨fun h => by rw [disableRule, provisionedSite_of_le s h], ?_⟩
  rintro i rfl
  split
  · rename_i hp
    rw [disableRule, provisionedSite_of_not hp]
  · rename_i hprov
    simp only [disableRule, provisionedSite_of hprov, beq_iff_eq]
    split
    · rfl
    · intro hqueues
      have aside := disableCarrier_aside i s hqueues
      refine ⟨disableCarrier i s, rfl, aside.record, aside.unstacked, aside.unqueued,
        (takeOffline_cascade i s).trans (disableCarrier_moves i s).cascade, fun hp q => ?_, fun hr hx => ?_⟩
      · rw [disableCarrier_of_asleep hp]
        exact sleeperLeaves_rail_takeOffline (by simpa using hprov) hp q
      · rw [State.port, disableCarrier_ports hr hx]
        exact takeOffline_notices i s

end Sys2Proof.Machine
end

/-! # Reset -/

section

namespace Sys2Proof.Machine

/-! ### The state after reset -/

theorem reset_carrier (n : Site) : State.reset.carrier n = Carrier.reset := by
  simp [State.carrier, State.reset]

theorem reset_rail (r : RailId) : State.reset.rail r = Rail.reset false := by
  simp [State.rail, State.reset]

theorem reset_port (u : Tenant) : State.reset.port u = Port.reset true := by
  cases u <;> rfl

theorem reset_power (n : Site) : (State.reset.carrier n).power = .offline := by rw [reset_carrier]; rfl

theorem reset_provisioned (n : Site) : (State.reset.carrier n).provisioned = false := by rw [reset_carrier]; rfl

theorem reset_offerQueue (u : Tenant) : (State.reset.port u).offerQueue = [] := by rw [reset_port]; rfl

theorem reset_railState (r : RailId) : (State.reset.rail r).state = .off := by rw [reset_rail]; rfl

theorem reset_settingsOk : SettingsOk State.reset :=
  reset_settings_of_parts rfl rfl (fun r => ⟨_, reset_rail r⟩) (fun u => ⟨_, reset_port u⟩) (by decide)

theorem reset_anchorsOk : AnchorsOk State.reset := by
  intro n hp
  rw [reset_provisioned] at hp
  cases hp

theorem reset_carriersOk : CarriersOk State.reset := carriersOk_of_reset reset_carrier reset_offerQueue rfl

theorem reset_slotsOk : SlotsOk State.reset := by
  intro u
  refine ⟨?_, fun _ => ⟨reset_offerQueue u, fun n _ => ?_⟩⟩
  · simp [outstanding, reset_provisioned]
  · rw [reset_power]; rfl

theorem reset_nightOk : NightOk State.reset :=
  fun _ => ⟨reset_offerQueue, fun n => by rw [reset_power]; rfl⟩

theorem reset_coverageOk : CoverageOk State.reset := by
  refine ⟨fun n hn => ?_, fun u n hn => ?_⟩
  · rw [reset_power] at hn; cases hn
  · rw [reset_offerQueue] at hn; cases hn

theorem reset_rampOk : RampOk State.reset := by
  refine ⟨List.nodup_nil, fun _ => rfl, fun r => ?_⟩
  rw [reset_rail]
  simp [State.reset, Ramp.queue, Rail.reset]

theorem reset_portsOk : PortsOk State.reset := by
  intro u
  rw [reset_port]
  decide

theorem reset_powerOk : PowerOk State.reset := by
  refine ⟨fun n hp => ?_, fun r => ?_⟩
  · rw [reset_provisioned] at hp; cases hp
  · rw [reset_railState]; simp

theorem reset_ripeOk : RipeOk State.reset := by
  intro u n
  have unripe : ripe State.reset n = false := by simp [ripe, reset_provisioned]
  rw [reset_offerQueue, unripe]
  simp

/-- Settles O5, law by law. -/
theorem resetMeetsLaws : Obligations.ResetMeetsLaws :=
  ⟨reset_settingsOk, reset_anchorsOk, reset_carriersOk, reset_slotsOk, reset_nightOk, reset_coverageOk, reset_rampOk,
    reset_portsOk, reset_powerOk, reset_ripeOk⟩

/-! ### Power-on reset -/

/-- Looking at a line whose debounce timer does not end at once changes only the line. -/
theorem recheckLine_of_not_due {which : InputLine} {s : State}
    (h : debounceDue { s with inputs := s.inputs.setLine which ((s.inputs.line which).compare s.now) } which = false) :
    recheckLine which s = { s with inputs := s.inputs.setLine which ((s.inputs.line which).compare s.now) } := by
  rw [recheckLine]
  simp only [h, Bool.false_eq_true, if_false]

/-- A debounce timer that starts now does not end now, unless the debounce length is 0. -/
theorem debounceDue_compare_reset {s : State} (which : InputLine) (level : Bool)
    (hl : s.inputs.line which = (Line.reset level).compare s.now) (hd : s.inputs.debounce = 1) :
    debounceDue s which = false := by
  rw [debounceDue, hl, hd]
  cases level <;> simp [Line.compare, Line.reset, Line.present, due, debounceTicks, elapsedSince]

/-- A power-on reset ends in the reset values, with both lines looked at. -/
theorem powerOnReset_inputs (addr : Nat) (s : State) :
    ∃ i, powerOnReset addr s = { resetState addr s with inputs := i } := by
  have hold := recheckLine_of_not_due (which := .holdIn) (s := resetState addr s)
    (debounceDue_compare_reset .holdIn s.inputs.holdIn.level rfl rfl)
  have source := recheckLine_of_not_due (which := .sourceIn) (s := recheckLine .holdIn (resetState addr s))
    (debounceDue_compare_reset .sourceIn s.inputs.sourceIn.level (by rw [hold]; rfl) (by rw [hold]; rfl))
  exact ⟨_, by rw [powerOnReset_eq, source, hold]⟩

/-- Settles O3: no debounce timer ends at the reset, so only the lines differ from the reset values. -/
theorem powerOnResetRecords : Obligations.PowerOnResetRecords := by
  intro addr s
  obtain ⟨i, hreset⟩ := powerOnReset_inputs addr s
  have carrier (n : Site) : (powerOnReset addr s).carrier n = Carrier.reset := by
    rw [hreset]; exact resetState_carrier addr s n
  have port (u : Tenant) : ∃ level, (powerOnReset addr s).port u = Port.reset level := by
    rw [hreset]; exact resetState_port addr s u
  have rail (r : RailId) : ∃ level, (powerOnReset addr s).rail r = Rail.reset level := by
    rw [hreset]; exact resetState_rail addr s r
  have ramp : (powerOnReset addr s).ramp = ⟨[], [], none⟩ := by rw [hreset]; rfl
  refine ⟨powerOnReset addr s, rfl, carrier, fun u => ?_, rail, fun r => ⟨?_, ?_, ?_⟩, ?_, ?_⟩
  · obtain ⟨level, hu⟩ := port u
    rw [hu]
    exact ⟨rfl, rfl⟩
  · simp [needCount, carrier, Carrier.reset]
  · obtain ⟨level, hr⟩ := rail r
    rw [hr]
    rfl
  · rw [ramp]; rfl
  · rw [ramp]; rfl
  · rw [ramp]

end Sys2Proof.Machine
end

/-! # Tenant requests and pins -/

section

namespace Sys2Proof.Machine

/-! ### Translation -/

theorem translate_badIndex {s : State} {t : Tenant} {num : Nat} (h : 16 ≤ num) :
    translate s t num = .error .badIndex := by
  rw [translate, if_pos h]

theorem translate_notMapped {s : State} {t : Tenant} {num : Nat} (h : num < 16)
    (hp : pointerUsed (s.port t) num = none) :
    translate s t num = .error .notMapped := by
  rw [pointerUsed] at hp
  rw [translate, if_neg (Nat.not_le.2 h), hp]

theorem translate_mapped {s : State} {t : Tenant} {num : Nat} {sl : Slice} (h : num < 16)
    (hp : pointerUsed (s.port t) num = some sl) : translate s t num =
      if (s.carrier (siteAt sl num)).provisioned = true ∧ (s.carrier (siteAt sl num)).owner = t then
        .ok (siteAt sl num)
      else .error .notOwned := by
  rw [pointerUsed] at hp
  rw [translate, if_neg (Nat.not_le.2 h), hp]
  simp only [Bool.and_eq_true, beq_iff_eq]

/-! ### The gates of a request -/

/-- A request that names a carrier runs `handle` with its kind, number and unused bytes. -/
theorem exec_namedRequest {i : Instr} {t : Tenant} {kind num unused : Nat} {s : State}
    (h : namedRequest i = some (t, kind, num, unused)) (htake : (s.port t).canTake = true) :
    ∃ silent rule, exec i s = .next (handle t kind num unused silent rule s) := by
  have taken (u : Tenant) (f : State → State) (hu : u = t) : whenTaken u f s = f s := by
    rw [whenTaken, hu, if_pos htake]
  unfold namedRequest at h
  split at h <;> cases h
  all_goals exact ⟨_, _, congrArg Host.Outcome.next (taken t _ rfl)⟩

theorem handle_error {t : Tenant} {kind num unused : Nat} {silent : Bool} {rule : Site → State → Answer} {s : State}
    {code : TenantResult} (h : translate s t num = .error code) :
    handle t kind num unused silent rule s = post t (.reply kind code num none none) s := by
  rw [handle, h]

theorem handle_unused {t : Tenant} {kind num unused : Nat} {silent : Bool} {rule : Site → State → Answer} {s : State}
    {n : Site} (h : translate s t num = .ok n) (hu : unused ≠ 0) :
    handle t kind num unused silent rule s = post t (.reply kind .badValue num (lowestLocal s t n) none) s := by
  rw [handle, h]
  simp only [hu, if_false]

/-- A request that has a REPLY whatever its result. -/
theorem handle_rule {t : Tenant} {kind num : Nat} {rule : Site → State → Answer} {s : State} {n : Site}
    (h : translate s t num = .ok n) : handle t kind num 0 false rule s = post t
      (.reply kind (rule n s).result num (lowestLocal (rule n s).state t n) (rule n s).data) (rule n s).state := by
  rw [handle, h]
  rfl

/-- Settles O29: every request that names a carrier runs `handle`, whose gates are the translation and the unused
bytes. -/
theorem requestGates : Obligations.RequestGates := by
  refine ⟨fun i t kind num unused s hi => ?_, fun t kind num s htake => ?_⟩
  · intro p refused htake
    obtain ⟨silent, rule, hexec⟩ := exec_namedRequest hi htake
    have reject {code : TenantResult} (h : translate s t num = .error code) : refused code none := by
      simp only [refused, hexec, handle_error h]
    refine ⟨fun h => reject (translate_badIndex h), fun h hp => reject (translate_notMapped h hp), fun sl h hp => ?_⟩
    have mapped := translate_mapped h hp
    refine ⟨fun hn => reject ?_, fun hprov howner => ⟨?_, fun hu => ?_⟩⟩
    · rw [mapped, if_neg]
      rintro ⟨hprov, howner⟩
      rcases hn with hn | hn
      · rw [hn] at hprov; cases hprov
      · exact hn howner
    · rw [mapped, if_pos ⟨hprov, howner⟩]
    · rw [if_pos ⟨hprov, howner⟩] at mapped
      simp only [refused, hexec, handle_unused mapped hu]
  · exact congrArg Host.Outcome.next (if_pos htake)

/-! ### Pins -/

theorem pinSet_isEmpty_iff (p : PinSet) : p.isEmpty = true ↔ p = PinSet.empty := by
  rcases p with ⟨a, b, c⟩
  cases a <;> cases b <;> cases c <;> decide

theorem lowestLocal_addPin (src : PinSource) (n : Site) (s : State) (t : Tenant) :
    lowestLocal (addPin src n s) t n = lowestLocal s t n := by
  cases hp : (s.carrier n).pins.has src with
  | true => rw [addPin_present src n s hp]
  | false => rw [lowestLocal_cascade (addPin_moves src n s hp).cascade]; rfl

theorem lowestLocal_removePin (src : PinSource) (n : Site) (s : State) (t : Tenant) :
    lowestLocal (removePin src n s) t n = lowestLocal s t n := by
  cases hp : (s.carrier n).pins.has src with
  | true => rw [lowestLocal_cascade (removePin_eases src n s hp).moves.cascade]; rfl
  | false => rw [removePin_absent src n s hp]

/-- What KEEP and UNKEEP answer. -/
theorem exec_keep {t : Tenant} {num : Nat} {i : Site} {s : State} (htake : (s.port t).canTake = true)
    (h : translate s t num = .ok i) : exec (.keep t num 0) s = .next
      (if (s.carrier i).power = .offline then post t (replyAbout s t i 0x06 num .wrongState) s
        else post t (replyAbout s t i 0x06 num .ok) (addPin .tenant i s)) := by
  have run : exec (.keep t num 0) s = .next (whenTaken t (handle t 0x06 num 0 false keepRule) s) := rfl
  rw [run, whenTaken, if_pos htake, handle_rule h]
  simp only [keepRule, beq_iff_eq]
  split
  · rfl
  · simp only [Answer.taken, lowestLocal_addPin]
    rfl

theorem exec_unkeep {t : Tenant} {num : Nat} {i : Site} {s : State} (htake : (s.port t).canTake = true)
    (h : translate s t num = .ok i) : exec (.unkeep t num 0) s = .next
      (if (s.carrier i).power = .offline then post t (replyAbout s t i 0x07 num .wrongState) s
        else post t (replyAbout s t i 0x07 num .ok) (removePin .tenant i s)) := by
  have run : exec (.unkeep t num 0) s = .next (whenTaken t (handle t 0x07 num 0 false unkeepRule) s) := rfl
  rw [run, whenTaken, if_pos htake, handle_rule h]
  simp only [unkeepRule, beq_iff_eq]
  split
  · rfl
  · simp only [Answer.taken, lowestLocal_removePin]
    rfl

/-- A port and a record are updated in either order. -/
theorem modPort_modCarrier (s : State) (n : Site) (t : Tenant) (f : Carrier → Carrier) (g : Port → Port) :
    (s.modCarrier n f).modPort t g = (s.modPort t g).modCarrier n f := rfl

theorem addPin_active {src : PinSource} {n : Site} {s : State} (h : (s.carrier n).pins.has src = false)
    (hp : (s.carrier n).power = .active) : addPin src n s =
      (s.modPort (s.carrier n).owner fun p => { p with offerQueue := p.offerQueue.filter (· != n) }).modCarrier n
        fun c => { c with pins := c.pins.put src true, ripeTime := none } := by
  simp only [addPin, h, hp, Bool.false_eq_true, if_false, unqueue, carrier_modCarrier_same]
  rw [modPort_modCarrier, modCarrier_modCarrier]

/-- Settles O11: the requests by their checks, then adding and removing a source by power state. -/
theorem pinRequestsAndEffects : Obligations.PinRequestsAndEffects := by
  have pin (n : Nat) (s : State) : exec (.pin n) s = .next (respond (pinRule n s)) := rfl
  have unpin (n : Nat) (s : State) : exec (.unpin n) s = .next (respond (unpinRule n s)) := rfl
  refine ⟨fun n s h => ?_, fun i s => ?_, fun t num i s htake h => ?_, fun src n s _ => ?_⟩
  · rw [pin, unpin, pinRule, unpinRule, provisionedSite_of_le s h]
    exact ⟨rfl, rfl⟩
  · rw [pin, unpin]
    split
    · rename_i hp
      rw [pinRule, unpinRule, provisionedSite_of_not hp]
      exact ⟨rfl, rfl⟩
    · rename_i hp
      simp only [pinRule, unpinRule, provisionedSite_of hp, beq_iff_eq]
      split <;> exact ⟨rfl, rfl⟩
  · rw [exec_keep htake h, exec_unkeep htake h]
    split <;> exact ⟨rfl, rfl⟩
  · refine ⟨addPin_present src n s, removePin_absent src n s, fun h => ⟨addPin_active h, ?_, ?_, ?_⟩, fun h => ⟨?_, ?_⟩⟩
    · rintro (hp | hp) <;> simp only [addPin, h, hp, Bool.false_eq_true, if_false]
    · intro hp
      simp only [addPin, h, hp, Bool.false_eq_true, if_false]
    · rintro (hp | hp) <;> simp only [addPin, h, hp, Bool.false_eq_true, if_false]
    · intro hne
      simp only [removePin, h, if_true, pinSet_isEmpty_iff, hne, if_false]
    · intro he
      simp only [removePin, h, if_true, pinSet_isEmpty_iff, he]

end Sys2Proof.Machine
end

/-! # The smoothing step -/

section

namespace Sys2Proof.Machine

/-- The step of a smoothing never passes its target, in either direction. -/
theorem tdiv_two_pow_between (d : Int) (k : Nat) : min 0 d ≤ d.tdiv (2 ^ k) ∧ d.tdiv (2 ^ k) ≤ max 0 d := by
  have hk : (0 : Int) < 2 ^ k := by positivity
  refine ⟨?_, (Int.tdiv_le_tdiv hk (le_max_right 0 d)).trans (Int.tdiv_le_self _ (le_max_left 0 d))⟩
  have opposite := (Int.tdiv_le_tdiv hk (le_max_right 0 (-d))).trans (Int.tdiv_le_self _ (le_max_left 0 (-d)))
  rw [Int.neg_tdiv] at opposite
  omega

/-- A step towards a target moves by the truncated quotient, with nothing cut off at zero (R26). -/
theorem smooth_eq (k old target : Nat) :
    (smooth k old target : Int) = old + Int.tdiv ((target : Int) - old) (2 ^ k) := by
  obtain ⟨lower, -⟩ := tdiv_two_pow_between ((target : Int) - old) k
  rw [smooth, Int.toNat_of_nonneg (by omega)]

theorem tdiv_two_pow_eq_zero_iff (d : Int) (k : Nat) : d.tdiv (2 ^ k) = 0 ↔ d.natAbs < 2 ^ k := by
  rw [← Int.natAbs_eq_zero, Int.natAbs_tdiv, Int.natAbs_pow]
  exact Nat.div_eq_zero_iff_lt (by positivity)

/-- Settles O31: the truncated quotient lies between zero and the difference, and is zero exactly for a small one. -/
theorem smoothingStaysBetween : Obligations.SmoothingStaysBetween := by
  intro k old target hold htarget
  have value := smooth_eq k old target
  have ⟨lower, upper⟩ := tdiv_two_pow_between ((target : Int) - old) k
  refine ⟨by omega, by omega, by omega, value, ?_⟩
  rw [← tdiv_two_pow_eq_zero_iff]
  omega

end Sys2Proof.Machine
end

/-! # What a report sets going -/

section

namespace Sys2Proof.Machine

/-! ### What the scheduler does to one carrier -/

/-- The elementary moves of a re-evaluation: unlike those of `Ease`, none of them brings a carrier to ACTIVE. -/
inductive SchedulerMove (s : State) : State → Prop where
  | leaves (n : Site) : SchedulerMove s (unqueue n s)
  | joins (n : Site) (hr : ripe s n = true) : SchedulerMove s (joinQueue n s)
  | offers (t : Tenant) (n : Site) (rest : List Site) (hq : (s.port t).offerQueue = n :: rest) :
      SchedulerMove s (issueOffer n (s.modPort t fun p => { p with offerQueue := rest }))

/-- A run of moves of the scheduler. -/
abbrev SchedulerMoves : State → State → Prop := Relation.ReflTransGen SchedulerMove

/-- A property that every move keeps is kept by a run of them. -/
theorem run_keeps {R : State → State → Prop} {P : State → Prop} (hP : ∀ s t, R s t → P s → P t) {s t : State}
    (h : Relation.ReflTransGen R s t) (hs : P s) : P t := by
  induction h with
  | refl => exact hs
  | tail _ m ih => exact hP _ _ m ih

theorem dispatchUpTo_schedulerMoves : ∀ (k : Nat) (t : Tenant) (s : State), SchedulerMoves s (dispatchUpTo k t s)
  | 0, _, _ => .refl
  | k + 1, t, s => by
    rw [dispatchUpTo]
    split
    · exact .refl
    · rename_i n rest hq
      split
      · exact .head (.offers t n rest hq) (dispatchUpTo_schedulerMoves k t _)
      · exact .refl

theorem dispatch_schedulerMoves (t : Tenant) (s : State) : SchedulerMoves s (dispatch t s) :=
  dispatchUpTo_schedulerMoves _ t s

/-- A carrier that is not ripe leaves its queue, if it is there, and nothing else happens (R53, R55). -/
theorem reeval_of_not_ripe {s : State} {n : Site} (h : ripe s n = false) : reeval n s = unqueue n s := by
  simp only [reeval, h, Bool.false_eq_true, if_false]

theorem reeval_schedulerMoves (n : Site) (s : State) : SchedulerMoves s (reeval n s) := by
  cases hr : ripe s n with
  | false => rw [reeval_of_not_ripe hr]; exact .single (.leaves n)
  | true =>
    rw [reeval, if_pos hr]
    split
    · exact .refl
    · exact .head (.joins n hr) (dispatch_schedulerMoves _ _)

/-- A turn of the loop over the dependents of x. -/
def reevalDependent (x n : Site) (s : State) : State := if dependent s x n then reeval n s else s

theorem reevalDependent_schedulerMoves (x n : Site) (s : State) : SchedulerMoves s (reevalDependent x n s) := by
  rw [reevalDependent]
  split
  · exact reeval_schedulerMoves n s
  · exact .refl

theorem reevalDependents_eq (x : Site) (s : State) :
    reevalDependents x s = forList allSites (reevalDependent x) s := rfl

theorem forList_reevalDependent_schedulerMoves (x : Site) (l : List Site) (s : State) :
    SchedulerMoves s (forList l (reevalDependent x) s) :=
  forList_induction (SchedulerMoves s) _ (fun n u h => h.trans (reevalDependent_schedulerMoves x n u)) l s .refl

theorem reevalDependents_schedulerMoves (x : Site) (s : State) : SchedulerMoves s (reevalDependents x s) :=
  forList_reevalDependent_schedulerMoves x allSites s

theorem carrier_unqueue (s : State) (n i : Site) : (unqueue n s).carrier i =
    if i = n then { s.carrier i with ripeTime := none } else s.carrier i :=
  carrier_modCarrier _ i n _

theorem carrier_joinQueue (s : State) (n i : Site) : (joinQueue n s).carrier i =
    if i = n then { s.carrier i with ripeTime := some s.now } else s.carrier i :=
  carrier_modCarrier _ i n _

theorem carrier_issueOffer (s : State) (n i : Site) : (issueOffer n s).carrier i =
    if i = n then (s.carrier i).offeredNow s else s.carrier i :=
  carrier_modCarrier s i n fun c => c.offeredNow s

/-- A move of the scheduler leaves or clears a record's ripe time, sets that of a ripe carrier, or makes an offer of a
queued one. -/
theorem SchedulerMove.record {s t : State} (m : SchedulerMove s t) (i : Site) :
    (∃ r, (r = (s.carrier i).ripeTime ∨ r = none ∨ ripe s i = true) ∧
        t.carrier i = { s.carrier i with ripeTime := r }) ∨
      ((∃ u, i ∈ (s.port u).offerQueue) ∧ t.carrier i = (s.carrier i).offeredNow s) := by
  cases m with
  | leaves n =>
    refine .inl ?_
    rw [carrier_unqueue]
    split
    · exact ⟨none, .inr (.inl rfl), rfl⟩
    · exact ⟨_, .inl rfl, rfl⟩
  | joins n hr =>
    refine .inl ?_
    rw [carrier_joinQueue]
    split
    · rename_i hi
      exact ⟨some s.now, .inr (.inr (hi ▸ hr)), rfl⟩
    · exact ⟨_, .inl rfl, rfl⟩
  | offers u n rest hq =>
    rw [carrier_issueOffer]
    split
    · rename_i hi
      exact .inr ⟨⟨u, by rw [hq, hi]; exact List.mem_cons_self⟩, rfl⟩
    · exact .inl ⟨_, .inl rfl, rfl⟩

theorem offerQueue_issueOffer (s : State) (n : Site) (u : Tenant) :
    ((issueOffer n s).port u).offerQueue = (s.port u).offerQueue := by
  rw [issueOffer, post, port_modPort]
  split
  · split <;> rfl
  · rfl

theorem mem_offerQueue_of_unqueue {s : State} {n i : Site} {u : Tenant}
    (h : i ∈ ((unqueue n s).port u).offerQueue) : i ∈ (s.port u).offerQueue := by
  rw [offerQueue_unqueue] at h
  split at h
  · exact List.mem_of_mem_filter h
  · exact h

/-- Only a ripe carrier comes into an offer queue. -/
theorem SchedulerMove.queued {s t : State} (m : SchedulerMove s t) {i : Site} {u : Tenant}
    (h : i ∈ (t.port u).offerQueue) : i ∈ (s.port u).offerQueue ∨ ripe s i = true := by
  cases m with
  | leaves n => exact .inl (mem_offerQueue_of_unqueue h)
  | joins n hr =>
    rw [joinQueue, port_modCarrier, port_modPort] at h
    split at h
    · rcases List.mem_append.1 h with h | h
      · exact .inl h
      · rw [List.mem_singleton.1 h]; exact .inr hr
    · exact .inl h
  | offers v n rest hq =>
    rw [offerQueue_issueOffer, port_modPort] at h
    refine .inl ?_
    split at h
    · rename_i hu
      rw [hu, hq]
      exact List.mem_cons_of_mem n h
    · exact h

theorem SchedulerMove.cascade {s t : State} (m : SchedulerMove s t) : Cascade s t := by
  cases m with
  | leaves n => exact unqueue_cascade n s
  | joins n _ => exact joinQueue_cascade n s
  | offers u n rest _ => exact (cascade_modPort s u _ fun _ => by rfl).trans (issueOffer_cascade n _)

/-! ### What a report sets going besides -/

/-- The elementary moves of everything that a taken report sets going in the scheduler and the wake selector: a return
to ACTIVE is among them for a woken carrier only. -/
inductive ReportMove (s : State) : State → Prop where
  | schedules {t : State} (m : SchedulerMove s t) : ReportMove s t
  | notice (t : Tenant) (x : Notice) : ReportMove s (post t x s)
  | holdoff (x : Site) (v : Option Time) : ReportMove s (s.modCarrier x fun c => { c with holdoff := v })
  | wakes (n : Site) (h : (s.carrier n).power = .asleep) :
      ReportMove s (s.modCarrier n fun c => { c with power := .waking, cause := none })
  | activates (n : Site) (h : (s.carrier n).power = .waking) : ReportMove s (enterActive n s)
  | meetsFault (n : Site) (h : (s.carrier n).power = .waking) :
      ReportMove s (s.modCarrier n fun c => { c with power := .faulted, cause := some .rail })
  /-- Rails, ramp queue or stack move, no record and no port. -/
  | rails {t : State} (hc : t.carriers = s.carriers) (hp : t.ports = s.ports) (h : Cascade s t) : ReportMove s t

/-- A run of moves that a report sets going. -/
abbrev ReportMoves : State → State → Prop := Relation.ReflTransGen ReportMove

theorem SchedulerMoves.reportMoves {s t : State} (h : SchedulerMoves s t) : ReportMoves s t :=
  Relation.ReflTransGen.mono (p := ReportMove) (fun _ _ m => .schedules m) _ _ h

theorem ReportMove.cascade {s t : State} (m : ReportMove s t) : Cascade s t := by
  cases m with
  | schedules m => exact m.cascade
  | notice u x => exact post_cascade u x s
  | holdoff x v => exact cascade_modCarrier s x _ fun _ => by rfl
  | wakes n _ => exact cascade_modCarrier s n _ fun _ => by rfl
  | activates n _ => exact enterActive_cascade n s
  | meetsFault n _ => exact cascade_modCarrier s n _ fun _ => by rfl
  | rails _ _ h => exact h

theorem ReportMoves.cascade {s t : State} (h : ReportMoves s t) : Cascade s t :=
  run_keeps (P := Cascade s) (fun _ _ m k => k.trans m.cascade) h (.refl s)

theorem carrier_enterActive_ne (s : State) {i n : Site} (h : i ≠ n) : (enterActive n s).carrier i = s.carrier i :=
  (carrier_unqueue_ne _ h).trans (carrier_modCarrier_ne s _ h)

theorem mem_offerQueue_of_enterActive {s : State} {n i : Site} {u : Tenant}
    (h : i ∈ ((enterActive n s).port u).offerQueue) : i ∈ (s.port u).offerQueue := by
  rw [enterActive] at h
  have queued := mem_offerQueue_of_unqueue h
  rwa [port_modCarrier] at queued

/-- A carrier that is neither asleep nor waking has its ripe time or its holdoff written, or is offered out of a
queue. -/
theorem ReportMove.record {s t : State} (m : ReportMove s t) {i : Site} (ha : (s.carrier i).power ≠ .asleep)
    (hw : (s.carrier i).power ≠ .waking) :
    (∃ r v, t.carrier i = { s.carrier i with ripeTime := r, holdoff := v }) ∨
      ((∃ u, i ∈ (s.port u).offerQueue) ∧ t.carrier i = (s.carrier i).offeredNow s) := by
  have still (h : t.carrier i = s.carrier i) :
      ∃ r v, t.carrier i = { s.carrier i with ripeTime := r, holdoff := v } := ⟨_, _, h⟩
  cases m with
  | schedules m => exact (m.record i).imp_left fun ⟨r, _, h⟩ => ⟨r, _, h⟩
  | notice u x => exact .inl (still rfl)
  | holdoff x v =>
    refine .inl ?_
    rw [carrier_modCarrier]
    split
    · exact ⟨_, v, rfl⟩
    · exact ⟨_, _, rfl⟩
  | wakes n h => exact .inl (still (carrier_modCarrier_ne s _ (by rintro rfl; exact ha h)))
  | activates n h => exact .inl (still (carrier_enterActive_ne s (by rintro rfl; exact hw h)))
  | meetsFault n h => exact .inl (still (carrier_modCarrier_ne s _ (by rintro rfl; exact hw h)))
  | rails hc _ _ => exact .inl (still (by rw [State.carrier, hc]; rfl))

theorem ReportMove.queued {s t : State} (m : ReportMove s t) {i : Site} {u : Tenant}
    (h : i ∈ (t.port u).offerQueue) : i ∈ (s.port u).offerQueue ∨ ripe s i = true := by
  cases m with
  | schedules m => exact m.queued h
  | notice v x =>
    rw [post, port_modPort] at h
    refine .inl ?_
    split at h
    · split at h <;> exact h
    · exact h
  | holdoff x v => exact .inl h
  | wakes n _ => exact .inl h
  | activates n _ => exact .inl (mem_offerQueue_of_enterActive h)
  | meetsFault n _ => exact .inl h
  | rails _ hp _ => rw [State.port, hp] at h; exact .inl h

theorem powered_reportMoves {n : Site} {s : State} (h : (s.carrier n).power = .waking) :
    ReportMoves s (powered n s) := by
  have told (u : Tenant) (x : Notice) : ReportMoves s (post u x (enterActive n s)) :=
    .head (.activates n h) (.single (.notice u x))
  rw [powered]
  split
  · exact (told _ _).trans (reevalDependents_schedulerMoves n _).reportMoves
  · exact told _ _

theorem ramp_reportMove (s : State) (q : Ramp) : ReportMove s { s with ramp := q } := .rails rfl rfl (cascade_ramp s q)

theorem stack_reportMove (s : State) (l : List Site) : ReportMove s { s with stack := l } :=
  .rails rfl rfl (cascade_stack s l)

theorem modRail_reportMove (s : State) (r : RailId) (f : Rail → Rail) (hf : ∀ x, (f x).lasting = x.lasting) :
    ReportMove s (s.modRail r f) :=
  .rails rfl rfl (cascade_modRail s r f hf)

theorem queueRail_reportMove (r : RailId) (cls : RampClass) (s : State) : ReportMove s (queueRail r cls s) := by
  have unmoved (u : State) : (grant u).carriers = u.carriers ∧ (grant u).ports = u.ports := by
    rcases grant_cases u with ⟨_, _, _, _, h⟩ | ⟨h, _⟩ <;> rw [h] <;> exact ⟨rfl, rfl⟩
  obtain ⟨carriers, ports⟩ := unmoved (joinRamp r cls (s.modRail r fun x => { x with state := .queued }))
  refine .rails (carriers.trans ?_) (ports.trans ?_) (queueRail_cascade r cls s)
  · cases cls <;> rfl
  · cases cls <;> rfl

theorem raiseRail_reportMoves (r : RailId) (cls : RampClass) (s : State) : ReportMoves s (raiseRail r cls s) := by
  cases cls with
  | ordinary => exact .refl
  | urgent =>
    rw [raiseRail]
    split
    · exact .single (ramp_reportMove s _)
    · exact .refl

theorem enterWaking_reportMoves (n : Site) (cls : RampClass) (s : State) (h : (s.carrier n).power = .asleep) :
    ReportMoves s (enterWaking n cls s) := by
  have woken : ReportMoves s (s.modCarrier n fun c => { c with power := .waking, cause := none }) :=
    .single (.wakes n h)
  rw [enterWaking]
  refine woken.trans ?_
  split
  · exact powered_reportMoves (by simp)
  · exact Relation.ReflTransGen.trans (.single (modRail_reportMove _ _ _ fun _ => by rfl))
      (powered_reportMoves (by simp))
  · exact .single (queueRail_reportMove _ cls _)
  · exact raiseRail_reportMoves _ cls _
  · exact .refl
  · exact .refl
  · exact (Relation.ReflTransGen.single (.meetsFault n (by simp))).tail (.notice _ _)

theorem wakeCarrier_reportMoves (n : Site) (cls : RampClass) (s : State) : ReportMoves s (wakeCarrier n cls s) := by
  rw [wakeCarrier]
  split
  · rename_i h
    exact .head (stack_reportMove s _) (enterWaking_reportMoves n cls _ (beq_iff_eq.1 h))
  · exact .refl

theorem surge_reportMoves (x : Site) (s : State) : ReportMoves s (surge x s) := by
  rw [surge]
  split
  · exact .refl
  · split
    · exact .refl
    · split
      · exact .refl
      · exact (wakeCarrier_reportMoves _ .ordinary s).tail (.holdoff x _)

/-- A withdrawal's consequences, after the carrier's own return to ACTIVE (R71). -/
theorem withdraw_reportMoves {n : Site} (why : Reason) {s : State} (h : (s.carrier n).power.inExchange = true) :
    ReportMoves (enterActive n s) (withdraw n why s) := by
  have drained (was : Power) (anchors : List Site) (u : State) : ReportMoves u (leftDraining was anchors u) := by
    rw [leftDraining]
    split
    · refine forList_induction (ReportMoves u) _ (fun x v hv => ?_) anchors u .refl
      split
      · exact hv.tail (.holdoff x _)
      · exact hv
    · exact .refl
  rw [withdraw, if_pos h]
  exact ((drained _ _ _).tail (.notice _ _)).trans (dispatch_schedulerMoves _ _).reportMoves

/-! ### What every move keeps of one carrier -/

/-- A carrier that fails one of these conditions of R52 is not ripe. -/
theorem not_ripe_of {s : State} {n : Site} (h : (s.carrier n).role = .coverage ∨ (s.carrier n).power ≠ .active ∨
    (s.carrier n).load = none ∨ (s.carrier n).stale = true ∨ (s.carrier n).dwell.isElapsed = false ∨
    someAnchorFit s n = false) : ripe s n = false := by
  refine Bool.eq_false_iff.2 fun hr => ?_
  simp only [ripe, Bool.and_eq_true, beq_iff_eq, Bool.not_eq_true'] at hr
  obtain ⟨⟨⟨⟨⟨⟨⟨⟨⟨-, capacity⟩, active⟩, seeded, fresh⟩, elapsed⟩, -⟩, -⟩, -⟩, -⟩, fit⟩ := hr
  simp [capacity, active, fresh, elapsed, fit, Option.isSome_iff_ne_none.1 seeded] at h

theorem ReportMove.keeps_unqueued {s t : State} (m : ReportMove s t) {i : Site} (h : Unqueued s i)
    (hr : ripe s i = false) : Unqueued t i := by
  intro u hi
  rcases m.queued hi with hi | hi
  · exact h u hi
  · rw [hr] at hi; cases hi

/-- The estimator's fields of a record (R3, R23). -/
def Carrier.estimate (c : Carrier) : Option Nat × Bool × Option Time := (c.load, c.stale, c.staleTimer)

/-- What a report sets going takes no estimate from a carrier that is neither asleep nor waking. -/
theorem ReportMoves.keeps_estimate {s t : State} (h : ReportMoves s t) {i : Site} (ha : (s.carrier i).power ≠ .asleep)
    (hw : (s.carrier i).power ≠ .waking) : (t.carrier i).estimate = (s.carrier i).estimate := by
  have kept : (t.carrier i).estimate = (s.carrier i).estimate ∧ (t.carrier i).power ≠ .asleep ∧
      (t.carrier i).power ≠ .waking := by
    refine run_keeps (P := fun u => (u.carrier i).estimate = (s.carrier i).estimate ∧ (u.carrier i).power ≠ .asleep ∧
      (u.carrier i).power ≠ .waking) (fun u v m ⟨he, ha, hw⟩ => ?_) h ⟨rfl, ha, hw⟩
    rcases m.record ha hw with ⟨r, x, hv⟩ | ⟨-, hv⟩ <;> rw [hv]
    · exact ⟨he, ha, hw⟩
    · exact ⟨he, nofun, nofun⟩
  exact kept.1

/-- Carrier i is ACTIVE, without a load, and in no offer queue. -/
structure Unseeded (i : Site) (s : State) : Prop where
  power : (s.carrier i).power = .active
  estimate : (s.carrier i).estimate = (none, false, none)
  unqueued : Unqueued s i

theorem Unseeded.not_ripe {s : State} {i : Site} (h : Unseeded i s) : ripe s i = false := by
  have load : (s.carrier i).load = none := congrArg Prod.fst h.estimate
  exact not_ripe_of (by simp [load])

theorem ReportMoves.keeps_unseeded {s t : State} (h : ReportMoves s t) {i : Site} (hs : Unseeded i s) :
    Unseeded i t := by
  refine run_keeps (fun u v m hu => ?_) h hs
  have unqueued := m.keeps_unqueued hu.unqueued hu.not_ripe
  rcases m.record (i := i) (by simp [hu.power]) (by simp [hu.power]) with ⟨r, x, hv⟩ | ⟨⟨w, hw⟩, -⟩
  · exact ⟨by rw [hv]; exact hu.power, by rw [hv]; exact hu.estimate, unqueued⟩
  · exact absurd hw (hu.unqueued w)

/-- The scheduler leaves a carrier in an exchange where it is. -/
theorem SchedulerMoves.keeps_exchange {s t : State} (h : SchedulerMoves s t) {i : Site}
    (hp : (s.carrier i).power.inExchange = true) (hq : Unqueued s i) :
    (t.carrier i).power.inExchange = true ∧ Unqueued t i := by
  refine run_keeps (P := fun u => (u.carrier i).power.inExchange = true ∧ Unqueued u i)
    (fun u v m ⟨hp, hq⟩ => ?_) h ⟨hp, hq⟩
  have hr : ripe u i = false := not_ripe_of (by
    rcases (inExchange_iff _).1 hp with hp | hp <;> simp [hp])
  refine ⟨?_, (ReportMove.schedules m).keeps_unqueued hq hr⟩
  rcases m.record i with ⟨r, -, hv⟩ | ⟨⟨w, hw⟩, -⟩
  · rw [hv]; exact hp
  · exact absurd hw (hq w)

theorem enterActive_unseeded {s : State} {i : Site} (h : Unqueued s i) : Unseeded i (enterActive i s) := by
  have record : (enterActive i s).carrier i = _ := carrier_unqueue_same _ i
  rw [carrier_modCarrier_same] at record
  exact ⟨by rw [record], by rw [record]; rfl, fun u hi => h u (mem_offerQueue_of_enterActive hi)⟩

end Sys2Proof.Machine
end

/-! # Load reports -/

section

namespace Sys2Proof.Machine

/-! ### The report, part by part -/

/-- The S that a report gives a carrier (R25, R26, R38). -/
def reportLoad (n : Site) (util users : Nat) (s : State) : Nat :=
  newLoad (bank s) (s.carrier n) (effectiveLoad (bank s) util users)

/-- The class of a report (R28). -/
def reportClass (n : Site) (util users : Nat) (s : State) : LoadClass :=
  classify (bank s) (s.carrier n).trim (reportLoad n util users s)

/-- A record after a report is written into it, before anything follows (R30, R48, R49). -/
def Carrier.reported (c : Carrier) (load : Nat) (cls : LoadClass) (now : Time) : Carrier :=
  { c with load := some load, stale := false, staleTimer := some now, dwell := dwellAfter c cls now }

/-- The state after a report is written into its carrier's record. -/
def reported (n : Site) (util users : Nat) (s : State) : State :=
  s.modCarrier n fun c => c.reported (reportLoad n util users s) (reportClass n util users s) s.now

/-- The state after the scheduler's part of a report. -/
def scheduled (n : Site) (util users : Nat) (s : State) : State :=
  scheduleReport n (s.carrier n) (reportClass n util users s) (takeReport n (reportLoad n util users s) s)

theorem report_eq (n : Site) (util users : Nat) (s : State) : report n util users s =
    let v := scheduled n util users s
    let w := if reportClass n util users s == .busy && (s.carrier n).power.inExchange then withdraw n .busy v else v
    if surges (bank s) (s.carrier n) (reportLoad n util users s) then surge n w else w := rfl

section Report

variable {n : Site} {util users : Nat} {s : State}

theorem carrier_reported_same : (reported n util users s).carrier n =
    (s.carrier n).reported (reportLoad n util users s) (reportClass n util users s) s.now :=
  carrier_modCarrier_same s n _

theorem reported_cascade : Cascade s (reported n util users s) := cascade_modCarrier s n _ fun _ => by rfl

/-- Ripeness is re-evaluated where the seeding, the stale flag or the dwell changed (R53). -/
theorem scheduled_eq : scheduled n util users s =
    let c := s.carrier n
    let inputs := c.load.isNone || c.stale
    if inputs || dwellAfter c (reportClass n util users s) s.now != c.dwell then
      if c.role == .coverage && inputs then reevalDependents n (reeval n (reported n util users s))
      else reeval n (reported n util users s)
    else reported n util users s := by
  have written : (takeReport n (reportLoad n util users s) s).modCarrier n
      (fun c => { c with dwell := dwellAfter (s.carrier n) (reportClass n util users s) s.now }) =
      reported n util users s := by
    rw [takeReport, modCarrier_modCarrier]
    exact modCarrier_congr rfl
  have now : (takeReport n (reportLoad n util users s) s).now = s.now := rfl
  simp only [scheduled, scheduleReport, now, written, carrier_reported_same]
  rfl

theorem scheduled_schedulerMoves : SchedulerMoves (reported n util users s) (scheduled n util users s) := by
  rw [scheduled_eq]
  dsimp only
  split
  · split
    · exact (reeval_schedulerMoves n _).trans (reevalDependents_schedulerMoves n _)
    · exact reeval_schedulerMoves n _
  · exact .refl

/-- A report that withdraws nothing leaves the record as it wrote it, but for what follows. -/
theorem report_of_kept (h : reportClass n util users s ≠ .busy ∨ (s.carrier n).power.inExchange = false) :
    ReportMoves (reported n util users s) (report n util users s) := by
  have kept : ¬ (reportClass n util users s == .busy && (s.carrier n).power.inExchange) = true := by
    rcases h with h | h <;> simp [h]
  rw [report_eq]
  simp only [if_neg kept]
  split
  · exact scheduled_schedulerMoves.reportMoves.trans (surge_reportMoves n _)
  · exact scheduled_schedulerMoves.reportMoves

/-- A busy report of a carrier in an exchange withdraws it after the scheduler's part (R31, R74). -/
theorem report_of_withdrawn (hb : reportClass n util users s = .busy) (hp : (s.carrier n).power.inExchange = true)
    (hq : Unqueued s n) : Unqueued (scheduled n util users s) n ∧
      ReportMoves (enterActive n (scheduled n util users s)) (report n util users s) := by
  have written : ((reported n util users s).carrier n).power.inExchange = true := by
    rw [carrier_reported_same]; exact hp
  obtain ⟨exchange, unqueued⟩ := scheduled_schedulerMoves.keeps_exchange written hq
  have withdrawn := withdraw_reportMoves .busy exchange
  refine ⟨unqueued, ?_⟩
  rw [report_eq]
  simp only [hb, hp, beq_self_eq_true, Bool.and_self, if_true]
  split
  · exact withdrawn.trans (surge_reportMoves n _)
  · exact withdrawn

end Report

/-! ### A taken LOAD -/

theorem classify_busy_iff (b : Bank) (trim : Int) (load : Nat) :
    classify b trim load = .busy ↔ 16 * b.busyThreshold ≤ load := by
  rw [classify]
  split
  · simpa
  · split <;> simpa using Nat.not_le.1 ‹_›

theorem classify_below_iff (b : Bank) (trim : Int) (load : Nat) : classify b trim load = .below ↔
    load < 16 * b.busyThreshold ∧ (load : Int) < 16 * max 0 (min 1000 ((b.sleepThreshold : Int) + trim)) := by
  have threshold : load < 16 * sleepThreshold b trim ↔
      (load : Int) < 16 * max 0 (min 1000 ((b.sleepThreshold : Int) + trim)) := by
    rw [sleepThreshold]
    omega
  rw [← threshold, classify]
  split
  · simp; omega
  · split <;> simp <;> omega

theorem surges_iff (b : Bank) (c : Carrier) (load : Nat) :
    surges b c load = true ↔ c.role = .coverage ∧ 16 * b.surgeThreshold ≤ load := by
  simp [surges]

section Load

variable {t : Tenant} {num util users : Nat} {i : Site} {s : State}

/-- A taken and translated LOAD: a REPLY only where the rule refuses it (R22, R168). -/
theorem exec_load (htake : (s.port t).canTake = true) (h : translate s t num = .ok i) :
    exec (.load t num util users 0) s = .next (
      let a := loadRule util users i s
      if a.result == .ok then a.state
      else post t (.reply 0x01 a.result num (lowestLocal a.state t i) a.data) a.state) := by
  have run : exec (.load t num util users 0) s =
      .next (whenTaken t (handle t 0x01 num 0 true (loadRule util users)) s) := rfl
  rw [run, whenTaken, if_pos htake, handle, h]
  rfl

theorem exec_load_of_reports (htake : (s.port t).canTake = true) (h : translate s t num = .ok i)
    (hp : (s.carrier i).power = .active ∨ (s.carrier i).power = .offered ∨ (s.carrier i).power = .draining) :
    exec (.load t num util users 0) s = .next (report i util users s) := by
  have rule : loadRule util users i s = .taken (report i util users s) := by
    rcases hp with hp | hp | hp <;> rw [loadRule, hp]
  rw [exec_load htake h, rule]
  rfl

theorem exec_load_of_refused (htake : (s.port t).canTake = true) (h : translate s t num = .ok i)
    (hp : (s.carrier i).power = .offline ∨ (s.carrier i).power = .waking ∨ (s.carrier i).power = .asleep ∨
      (s.carrier i).power = .faulted) :
    exec (.load t num util users 0) s = .next (post t (replyAbout s t i 0x01 num .wrongState) s) := by
  have rule : loadRule util users i s = .refused .wrongState s := by
    rcases hp with hp | hp | hp | hp <;> rw [loadRule, hp]
  rw [exec_load htake h, rule]
  rfl

end Load

/-- Settles O30: a report that withdraws nothing keeps its estimate through all that follows; a withdrawal unseeds the
carrier, and what follows does not reach a carrier that is in no queue. -/
theorem loadSmooths : Obligations.LoadSmooths := by
  intro t num util users i s htake htranslate run c b level new
  have hnew : reportLoad i util users s = new := by
    simp only [reportLoad, newLoad, new]
    cases c.load with
    | none => rfl
    | some old => rfl
  have hbusy : reportClass i util users s = .busy ↔ 16 * b.busyThreshold ≤ new := by
    rw [reportClass, classify_busy_iff, hnew]
  refine ⟨fun hp => exec_load_of_refused htake htranslate hp, fun hp => ?_, fun hp hb hqueues => ?_⟩
  · have reports : c.power = .active ∨ c.power = .offered ∨ c.power = .draining := by tauto
    have kept : reportClass i util users s ≠ .busy ∨ c.power.inExchange = false := by
      rcases hp with hp | ⟨-, hp⟩
      · exact .inr (by rw [hp]; rfl)
      · exact .inl fun hb => absurd (hbusy.1 hb) (Nat.not_le.2 hp)
    have moves := report_of_kept kept
    have power : ((reported i util users s).carrier i).power = c.power := by rw [carrier_reported_same]; rfl
    have estimate := moves.keeps_estimate (i := i) (by rw [power]; rcases reports with h | h | h <;> simp [h])
      (by rw [power]; rcases reports with h | h | h <;> simp [h])
    rw [carrier_reported_same, hnew] at estimate
    simp only [Carrier.estimate, Carrier.reported, Prod.mk.injEq] at estimate
    obtain ⟨load, stale, timer⟩ := estimate
    exact ⟨_, exec_load_of_reports htake htranslate reports, load, stale, timer, reported_cascade.trans moves.cascade⟩
  · have exchange : c.power.inExchange = true := (inExchange_iff _).2 hp
    have unqueued : Unqueued s i := fun u hi => by
      obtain ⟨-, hqueued⟩ := hqueues u
      obtain ⟨-, -, -, active⟩ := hqueued i hi
      rw [show c.power = .active from active] at exchange
      cases exchange
    obtain ⟨unqueued, moves⟩ := report_of_withdrawn (hbusy.2 hb) exchange unqueued
    obtain ⟨power, estimate, -⟩ := moves.keeps_unseeded (enterActive_unseeded unqueued)
    simp only [Carrier.estimate, Prod.mk.injEq] at estimate
    obtain ⟨load, stale, timer⟩ := estimate
    have cascade := ((reported_cascade.trans scheduled_schedulerMoves.reportMoves.cascade).trans
      (enterActive_cascade i _)).trans moves.cascade
    exact ⟨_, exec_load_of_reports htake htranslate (.inr hp), power, load, stale, timer, cascade⟩

/-- A report that leaves no elapsed dwell makes no CAPACITY carrier ripe: at most it takes it from its queue. -/
theorem report_of_unelapsed {n : Site} {util users : Nat} {s : State} (hp : (s.carrier n).power = .active)
    (hr : (s.carrier n).role = .capacity)
    (hd : (dwellAfter (s.carrier n) (reportClass n util users s) s.now).isElapsed = false) :
    report n util users s =
      let c := s.carrier n
      if c.load.isNone || c.stale || dwellAfter c (reportClass n util users s) s.now != c.dwell then
        unqueue n (reported n util users s)
      else reported n util users s := by
  have unripe : ripe (reported n util users s) n = false :=
    not_ripe_of (by simp [carrier_reported_same, Carrier.reported, hd])
  have kept : scheduled n util users s = report n util users s := by
    simp [report_eq, surges, hp, hr, Power.inExchange]
  rw [← kept, scheduled_eq]
  simp only [hr, reeval_of_not_ripe unripe]
  rfl

/-- Where the dwell does not end up elapsed it is what the class makes it, and a changed one costs the place in the
queue (R48, R49, R55). -/
theorem report_dwell {n : Site} {util users : Nat} {s : State} {d : Dwell} (hp : (s.carrier n).power = .active)
    (hr : (s.carrier n).role = .capacity) (hd : dwellAfter (s.carrier n) (reportClass n util users s) s.now = d)
    (he : d.isElapsed = false) :
    ((report n util users s).carrier n).dwell = d ∧ ((report n util users s).carrier n).power = .active ∧
      ((s.carrier n).dwell ≠ d → n ∉ ((report n util users s).port (s.carrier n).owner).offerQueue) := by
  rw [report_of_unelapsed hp hr (by rw [hd]; exact he)]
  dsimp only
  split
  · rw [carrier_unqueue_same, carrier_reported_same, offerQueue_unqueue, carrier_reported_same]
    exact ⟨hd, hp, fun _ => by simp [Carrier.reported]⟩
  · rename_i same
    rw [carrier_reported_same]
    exact ⟨hd, hp, fun hne => absurd (by simp [hd, hne.symm]) same⟩

/-- Settles O32: for an ACTIVE CAPACITY carrier whose dwell does not end up elapsed, all that follows a report is
leaving the queue, which a changed dwell demands. -/
theorem reportClassDrivesDwell : Obligations.ReportClassDrivesDwell := by
  refine ⟨fun b trim load => ⟨classify_busy_iff b trim load, classify_below_iff b trim load⟩, surges_iff, ?_⟩
  intro t num util users i s htake htranslate hp hr c cls
  have capacity : (c.role == .capacity && c.power == .active) = true := by simp [c, hp, hr]
  have dwell (d : Dwell) (hd : dwellAfter c cls s.now = d) := report_dwell (d := d) hp hr hd
  refine ⟨_, exec_load_of_reports htake htranslate (.inl hp), fun hcls hd => ?_, fun st hcls hd => ?_, fun hcls => ?_⟩
  · obtain ⟨running, power, -⟩ := dwell (.running s.now) (by rw [dwellAfter.eq_def, if_pos capacity, hcls, hd]) rfl
    exact ⟨running, power⟩
  · have unchanged : dwellAfter c cls s.now = .running st := by
      rw [dwellAfter.eq_def, if_pos capacity]
      cases h : cls with
      | below => rw [hd]
      | band => exact hd
      | busy => exact absurd h hcls
    obtain ⟨running, power, -⟩ := dwell (.running st) unchanged rfl
    exact ⟨running, power⟩
  · exact dwell .absent (by rw [dwellAfter.eq_def, if_pos capacity, hcls]) rfl

end Sys2Proof.Machine
end

/-! # The expiries of a carrier's timers -/

section

namespace Sys2Proof.Machine

/-- The state after an ACTIVE carrier went stale, before its dependents are looked at (R34). -/
def staled (n : Site) (s : State) : State :=
  (s.modPort (s.carrier n).owner fun p => { p with offerQueue := p.offerQueue.filter (· != n) }).modCarrier n
    fun c => { c with staleTimer := none, stale := true, dwell := .absent, ripeTime := none }

/-- A stale carrier is not ripe, so going stale takes it from its queue (R34, R52). -/
theorem staleExpires_active {n : Site} {s : State} (h : (s.carrier n).power = .active) : staleExpires n s =
    if (s.carrier n).role == .coverage then reevalDependents n (staled n s) else staled n s := by
  let v := s.modCarrier n fun c => { c with staleTimer := none, stale := true, dwell := .absent }
  have unripe : ripe v n = false := not_ripe_of (by simp [v])
  have leaves : unqueue n v = staled n s := by
    rw [unqueue, carrier_modCarrier_same, modPort_modCarrier, modCarrier_modCarrier]
    rfl
  have reevaluated : reeval n v = staled n s := (reeval_of_not_ripe unripe).trans leaves
  simp only [staleExpires, h, modCarrier_modCarrier]
  rw [← reevaluated]

theorem carrier_staled_same (n : Site) (s : State) : (staled n s).carrier n =
    { s.carrier n with staleTimer := none, stale := true, dwell := .absent, ripeTime := none } :=
  carrier_modCarrier_same _ n _

theorem staled_cascade (n : Site) (s : State) : Cascade s (staled n s) :=
  (cascade_modPort s _ _ fun _ => by rfl).trans (cascade_modCarrier _ n _ fun _ => by rfl)

/-- A carrier without a fit anchor gets none while the scheduler moves: no anchor becomes ACTIVE or loses its stale
flag. -/
theorem SchedulerMove.keeps_unfit {s t : State} (m : SchedulerMove s t) {i : Site} (h : someAnchorFit s i = false) :
    someAnchorFit t i = false := by
  have anchors : (t.carrier i).anchors = (s.carrier i).anchors := by
    rcases m.record i with ⟨r, -, hi⟩ | ⟨-, hi⟩ <;> rw [hi]
    rfl
  simp only [someAnchorFit, anchors, List.any_eq_false] at h ⊢
  intro x hx
  rcases m.record x with ⟨r, -, ht⟩ | ⟨-, ht⟩ <;> rw [ht]
  · exact h x hx
  · simp [Carrier.offeredNow]

/-- A carrier without a fit anchor does not come into an offer queue while the scheduler moves. -/
theorem SchedulerMoves.keeps_out_of_queue {s t : State} (h : SchedulerMoves s t) {i : Site} {u : Tenant}
    (hf : someAnchorFit s i = false) (hq : i ∉ (s.port u).offerQueue) :
    someAnchorFit t i = false ∧ i ∉ (t.port u).offerQueue := by
  refine run_keeps (P := fun v => someAnchorFit v i = false ∧ i ∉ (v.port u).offerQueue)
    (fun v w m ⟨hf, hq⟩ => ⟨m.keeps_unfit hf, fun hi => ?_⟩) h ⟨hf, hq⟩
  rcases m.queued hi with hi | hi
  · exact hq hi
  · rw [not_ripe_of (by simp [hf])] at hi
    cases hi

theorem Cascade.owner {s t : State} (h : Cascade s t) (n : Site) : (t.carrier n).owner = (s.carrier n).owner :=
  congrArg (fun l => l.2.1) (h.carriers n)

/-- After the dependents of x are re-evaluated, none without a fit anchor is queued (R34, R53). -/
theorem reevalDependents_unqueues {s : State} {x i : Site} (hd : dependent s x i = true)
    (hf : someAnchorFit s i = false) : i ∉ ((reevalDependents x s).port (s.carrier i).owner).offerQueue := by
  have run := forList_reevalDependent_schedulerMoves x
  obtain ⟨before, after, sites⟩ := List.append_of_mem (mem_allSites i)
  let v := forList before (reevalDependent x) s
  have loop : reevalDependents x s = forList after (reevalDependent x) (reevalDependent x i v) := by
    rw [reevalDependents_eq, sites, forList, List.foldl_append, List.foldl_cons]
    rfl
  have cascade : Cascade s v := (run before s).reportMoves.cascade
  have unfit : someAnchorFit v i = false := run_keeps (fun _ _ m h => m.keeps_unfit h) (run before s) hf
  have turn : reevalDependent x i v = unqueue i v := by
    rw [reevalDependent, cascade.dependent, if_pos hd]
    exact reeval_of_not_ripe (not_ripe_of (by simp [unfit]))
  rw [loop, turn]
  refine ((run after _).keeps_out_of_queue ((SchedulerMove.leaves i).keeps_unfit unfit) ?_).2
  rw [offerQueue_unqueue, cascade.owner]
  simp

/-- Re-evaluating others leaves a carrier alone that has no ripe time, is in no queue and is no CAPACITY carrier. -/
theorem SchedulerMoves.keeps_coverage {s t : State} (h : SchedulerMoves s t) {i : Site}
    (hr : (s.carrier i).role = .coverage) (hn : (s.carrier i).ripeTime = none) (hq : Unqueued s i) :
    t.carrier i = s.carrier i := by
  have kept : t.carrier i = s.carrier i ∧ Unqueued t i := by
    refine run_keeps (P := fun u => u.carrier i = s.carrier i ∧ Unqueued u i) (fun u v m ⟨hu, hq⟩ => ?_) h ⟨rfl, hq⟩
    have unripe : ripe u i = false := not_ripe_of (by simp [hu, hr])
    refine ⟨?_, (ReportMove.schedules m).keeps_unqueued hq unripe⟩
    rcases m.record i with ⟨r, hr, hv⟩ | ⟨⟨w, hw⟩, -⟩
    · have absent : r = none := by
        rcases hr with hr | hr | hr
        · rw [hr, hu, hn]
        · exact hr
        · rw [unripe] at hr; cases hr
      rw [hv, hu, absent, ← hn]
    · exact absurd hw (hq w)
  exact kept.1

/-- Settles O51: each expiry is its own rule once its timer is due; of a stale COVERAGE carrier the dependents are
looked at one by one, and no turn makes an anchor fit again. -/
theorem carrierExpiries : Obligations.CarrierExpiries := by
  intro n s c
  have early {b : Bool} {u : State} (h : b = false) : Host.Outcome.next (φ := Fault) (ρ := Refusal)
      (if b then u else s) = .next s := by rw [h]; rfl
  have due {b : Bool} {u v : State} (h : b = true) (hu : u = v) : Host.Outcome.next (φ := Fault) (ρ := Refusal)
      (if b then u else s) = .next v := by rw [h, hu]; rfl
  refine ⟨fun h => early h, fun h => early h, fun h => early h, fun h => early h, fun h => early h, fun h => early h,
    fun h ha hr => due h ?_, fun h ha hr => ⟨_, due h ?_, rfl, ?_, fun m hd hf => ?_, fun hqueues => ?_⟩,
    fun h hp => due h (staleExpires_offered n s hp), fun h hp => due h ?_,
    fun h hp => due h (answerExpires_offered n s hp), fun h hp => due h (drainExpires_draining n s hp),
    fun st h hd => due h ?_, fun e h hm => due h ?_, fun h => due h rfl⟩
  · have other : (s.carrier n).role ≠ .coverage := fun coverage => by cases hr.symm.trans coverage
    rw [staleExpires_active ha, if_neg (by simpa using other)]
    rfl
  · rw [staleExpires_active ha, if_pos (by simpa using hr)]
    rfl
  · exact (staled_cascade n s).trans (reevalDependents_schedulerMoves n _).reportMoves.cascade
  · have queue := reevalDependents_unqueues (((staled_cascade n s).dependent n m).trans hd) hf
    rwa [(staled_cascade n s).owner] at queue
  · refine (reevalDependents_schedulerMoves n (staled n s)).keeps_coverage ?_ ?_ fun u hu => ?_
    · rw [carrier_staled_same]; exact hr
    · rw [carrier_staled_same]
    · have queued : n ∈ (s.port u).offerQueue := by
        rw [staled, port_modCarrier, port_modPort] at hu
        split at hu
        · exact List.mem_of_mem_filter hu
        · exact hu
      obtain ⟨-, hqueued⟩ := hqueues u
      obtain ⟨-, -, capacity, -⟩ := hqueued n queued
      cases capacity.symm.trans hr
  · rw [staleExpires, hp]
  · rw [dwellEnds, hd]
  · rw [minAwakeEnds, hm]
    rfl

end Sys2Proof.Machine
end

/-! # What the scheduling laws look at

The laws of the drain slots, of night, of coverage and of ripeness look at a few fields only. A `Shift` is a change
after which each of them holds of every site of which it held before; what a shift can do to one site is `Placed`. -/

section

namespace Sys2Proof.Machine

/-! ### The fields -/

/-- The provisioning fields that the scheduling laws look at. -/
def Carrier.place (c : Carrier) : Bool × Tenant × Role × List Site := (c.provisioned, c.owner, c.role, c.anchors)

/-- What the scheduling laws look at in a record. -/
structure Standing where
  place : Bool × Tenant × Role × List Site
  power : Power
  seeded : Bool
  stale : Bool
  elapsed : Bool
  passed : Bool
  unpinned : Bool

def Carrier.standing (c : Carrier) : Standing :=
  ⟨c.place, c.power, c.load.isSome, c.stale, c.dwell.isElapsed, c.minAwake.hasPassed, c.pins.isEmpty⟩

/-- What a record is worth to those that list it as an anchor: ACTIVE (R97), and ACTIVE and not stale (R52). -/
def Carrier.anchorage (c : Carrier) : Bool × Bool := (c.power == .active, c.power == .active && !c.stale)

/-- A power state after which a carrier is in no group of R46 or R61 in which it was not before. -/
def Power.Calms (p q : Power) : Prop :=
  (q.sleepward = true → p.sleepward = true) ∧ (q.inExchange = true → p.inExchange = true)

theorem Power.Calms.same (p : Power) : p.Calms p := ⟨id, id⟩

theorem Power.Calms.of_awake {p q : Power} (h : q.sleepward = false) : p.Calms q := by
  cases q <;> simp [Power.Calms, Power.sleepward, Power.inExchange] at h ⊢

theorem standing_place {c d : Carrier} (h : c.standing = d.standing) : c.place = d.place := congrArg Standing.place h

theorem standing_power {c d : Carrier} (h : c.standing = d.standing) : c.power = d.power := congrArg Standing.power h

theorem standing_stale {c d : Carrier} (h : c.standing = d.standing) : c.stale = d.stale := congrArg Standing.stale h

theorem place_provisioned {c d : Carrier} (h : c.place = d.place) : c.provisioned = d.provisioned :=
  congrArg Prod.fst h

theorem place_owner {c d : Carrier} (h : c.place = d.place) : c.owner = d.owner := congrArg (fun p => p.2.1) h

theorem place_role {c d : Carrier} (h : c.place = d.place) : c.role = d.role := congrArg (fun p => p.2.2.1) h

theorem place_anchors {c d : Carrier} (h : c.place = d.place) : c.anchors = d.anchors := congrArg (fun p => p.2.2.2) h

theorem standing_anchorage {c d : Carrier} (h : c.standing = d.standing) : c.anchorage = d.anchorage := by
  rw [Carrier.anchorage, Carrier.anchorage, standing_power h, standing_stale h]

/-! ### What stands around the carriers -/

/-- Night, the links and the drain slots are as they were. -/
structure Setting (s t : State) : Prop where
  night : night t = night s
  link : ∀ u, (t.port u).link = (s.port u).link
  slots : ∀ u, (t.port u).drainSlots = (s.port u).drainSlots

/-- Nothing that the scheduling laws look at has changed. -/
structure Quiet (s t : State) : Prop extends Setting s t where
  standing : ∀ m, (t.carrier m).standing = (s.carrier m).standing
  queue : ∀ u, (t.port u).offerQueue = (s.port u).offerQueue

/-- Of what the scheduling laws look at only carrier n has changed, and it has not come nearer to sleep. -/
structure Change (n : Site) (s t : State) : Prop extends Setting s t where
  others : ∀ m, m ≠ n → (t.carrier m).standing = (s.carrier m).standing
  queued : ∀ u m, m ∈ (t.port u).offerQueue → m ∈ (s.port u).offerQueue
  stays : ∀ u m, m ≠ n → m ∈ (s.port u).offerQueue → m ∈ (t.port u).offerQueue
  place : (t.carrier n).power ≠ .offline → (t.carrier n).place = (s.carrier n).place
  calms : (s.carrier n).power.Calms (t.carrier n).power

/-- A change that leaves carrier n unripe, out of its queue, and no anchor that counts for others. -/
structure Turn (n : Site) (s t : State) : Prop extends Change n s t where
  unripe : ripe t n = false
  out : n ∉ (t.port (t.carrier n).owner).offerQueue
  anchor : (s.carrier n).role = .capacity ∨ (t.carrier n).anchorage = (s.carrier n).anchorage

/-- The changes that keep the scheduling laws site by site. -/
inductive Shift (s : State) : State → Prop where
  | quiet {t : State} (acts : Acts s t) (h : Quiet s t) : Shift s t
  | turns {t : State} (n : Site) (acts : Acts s t) (h : CarriersOk s → Turn n s t) : Shift s t
  | joins (n : Site) (hr : ripe s n = true) (hq : n ∉ (s.port (s.carrier n).owner).offerQueue) : Shift s (joinQueue n s)
  | offers (t : Tenant) (n : Site) (rest : List Site) (hq : (s.port t).offerQueue = n :: rest)
      (hs : outstanding s t < (s.port t).drainSlots) :
      Shift s (issueOffer n (s.modPort t fun p => { p with offerQueue := rest }))

/-- A run of shifts. -/
abbrev Shifts : State → State → Prop := Relation.ReflTransGen Shift

theorem Acts.keeps_carriers {s t : State} (h : Acts s t) (hs : CarriersOk s) : CarriersOk t :=
  h.keeps (fun _ _ a => a.keeps_carriers) hs

theorem Acts.keeps_anchors {s t : State} (h : Acts s t) (hs : AnchorsOk s) : AnchorsOk t :=
  h.keeps (fun _ _ a => a.keeps_anchors) hs

theorem Shift.acts {s t : State} (h : Shift s t) : Acts s t := by
  cases h with
  | quiet acts _ => exact acts
  | turns n acts _ => exact acts
  | joins n hr hq => exact Eases.acts (Ease.joins n hr hq).run
  | offers t n rest hq hs => exact Eases.acts (Ease.offers t n rest hq hs).run

theorem Shifts.acts {s t : State} (h : Shifts s t) : Acts s t := by
  induction h with
  | refl => exact .refl
  | tail _ m ih => exact ih.trans m.acts

/-- A property that every shift from a lawful state keeps is kept by a run of shifts. -/
theorem Shifts.keeps {P : State → Prop} (hP : ∀ u v, CarriersOk u → AnchorsOk u → Shift u v → P u → P v) {s t : State}
    (h : Shifts s t) (hc : CarriersOk s) (ha : AnchorsOk s) (hs : P s) : P t := by
  induction h with
  | refl => exact hs
  | tail k m ih => exact hP _ _ ((Shifts.acts k).keeps_carriers hc) ((Shifts.acts k).keeps_anchors ha) m ih

/-- The same for a property that does not need the law of the anchor lists. -/
theorem Shifts.keeps_of_carriers {P : State → Prop} (hP : ∀ u v, CarriersOk u → Shift u v → P u → P v) {s t : State}
    (h : Shifts s t) (hc : CarriersOk s) (hs : P s) : P t := by
  induction h with
  | refl => exact hs
  | tail k m ih => exact hP _ _ ((Shifts.acts k).keeps_carriers hc) m ih

theorem setting_of_cascade {s t : State} (h : Cascade s t) : Setting s t :=
  ⟨h.night, h.link, fun u =>
    (congrArg Port.drainSlots (h.ports u) : (t.port u).lasting.drainSlots = (s.port u).lasting.drainSlots)⟩

theorem Setting.trans {s t u : State} (h : Setting s t) (k : Setting t u) : Setting s u :=
  ⟨k.night.trans h.night, fun v => (k.link v).trans (h.link v), fun v => (k.slots v).trans (h.slots v)⟩

theorem Shift.setting {s t : State} (h : Shift s t) (hc : CarriersOk s) : Setting s t := by
  cases h with
  | quiet _ q => exact q.toSetting
  | turns n _ h => exact (h hc).toSetting
  | joins n _ _ => exact setting_of_cascade (joinQueue_cascade n s)
  | offers t n rest hq hs => exact setting_of_cascade (Ease.offers t n rest hq hs).cascade

/-! ### What a shift can do to one site -/

/-- What one shift can do to site m. -/
inductive Placed (m : Site) (s t : State) : Prop where
  | kept (standing : (t.carrier m).standing = (s.carrier m).standing)
      (queues : ∀ u, m ∈ (t.port u).offerQueue ↔ m ∈ (s.port u).offerQueue)
  | turned (unripe : ripe t m = false) (out : Unqueued t m)
      (place : (t.carrier m).power ≠ .offline → (t.carrier m).place = (s.carrier m).place)
      (calms : (s.carrier m).power.Calms (t.carrier m).power)
  | joined (ripe : ripe s m = true) (standing : (t.carrier m).standing = (s.carrier m).standing)
      (queues : ∀ u, m ∈ (t.port u).offerQueue ↔ (s.carrier m).owner = u)
  | offered (u : Tenant) (queued : m ∈ (s.port u).offerQueue) (place : (t.carrier m).place = (s.carrier m).place)
      (power : (t.carrier m).power = .offered) (out : Unqueued t m)

theorem Placed.place {m : Site} {s t : State} (h : Placed m s t) (hp : (t.carrier m).power ≠ .offline) :
    (t.carrier m).place = (s.carrier m).place := by
  cases h with
  | kept standing _ => exact standing_place standing
  | turned _ _ place _ => exact place hp
  | joined _ standing _ => exact standing_place standing
  | offered _ _ place _ _ => exact place

theorem offerQueue_joinQueue (s : State) (n : Site) (u : Tenant) : ((joinQueue n s).port u).offerQueue =
    if u = (s.carrier n).owner then (s.port u).offerQueue ++ [n] else (s.port u).offerQueue := by
  rw [joinQueue, port_modCarrier, port_modPort]
  split <;> rfl

theorem mem_joinQueue_iff {s : State} (hc : CarriersOk s) (n : Site) (u : Tenant) :
    n ∈ ((joinQueue n s).port u).offerQueue ↔ (s.carrier n).owner = u := by
  rw [offerQueue_joinQueue]
  split
  · rename_i hu; simp [hu]
  · rename_i hu
    refine ⟨fun hn => ?_, fun ho => absurd ho.symm hu⟩
    obtain ⟨-, owner, -⟩ := hc.of_queued hn
    exact owner

/-- The queues after the head of one was offered. -/
theorem mem_offerQueue_offers {s : State} {t u : Tenant} {m n : Site} {rest : List Site}
    (hq : (s.port t).offerQueue = n :: rest) (hm : m ≠ n) :
    m ∈ ((issueOffer n (s.modPort t fun p => { p with offerQueue := rest })).port u).offerQueue ↔
      m ∈ (s.port u).offerQueue := by
  rw [offerQueue_issueOffer, port_modPort]
  split
  · rename_i hu
    subst hu
    simp [hq, hm]
  · rfl

theorem Change.placed_ne {n m : Site} {s t : State} (h : Change n s t) (hm : m ≠ n) : Placed m s t :=
  .kept (h.others m hm) fun u => ⟨h.queued u m, h.stays u m hm⟩

theorem Shift.placed {s t : State} (h : Shift s t) (hc : CarriersOk s) (m : Site) : Placed m s t := by
  have hct : CarriersOk t := h.acts.keeps_carriers hc
  cases h with
  | quiet _ q => exact .kept (q.standing m) fun u => by rw [q.queue u]
  | turns n _ h =>
    have turn := h hc
    by_cases hm : m = n
    · subst hm
      refine .turned turn.unripe (fun u hu => turn.out ?_) turn.place turn.calms
      obtain ⟨-, owner, -⟩ := hct.of_queued hu
      rwa [owner]
    · exact turn.placed_ne hm
  | joins n hr hq =>
    by_cases hm : m = n
    · subst hm
      exact .joined hr (by rw [carrier_joinQueue, if_pos rfl]; rfl) (mem_joinQueue_iff hc m)
    · refine .kept (by rw [carrier_joinQueue, if_neg hm]) fun u => ?_
      rw [offerQueue_joinQueue]
      split
      · simp [hm]
      · rfl
  | offers t n rest hq hs =>
    by_cases hm : m = n
    · subst hm
      have record := carrier_issueOffer (s.modPort t fun p => { p with offerQueue := rest }) m m
      rw [if_pos rfl] at record
      refine .offered t (hq ▸ List.mem_cons_self) (by rw [record]; rfl) (by rw [record]; rfl) ?_
      exact unqueued_of_power hct (by rw [record]; exact nofun)
    · refine .kept (by rw [carrier_issueOffer, if_neg hm]; rfl) fun u => mem_offerQueue_offers hq hm

/-- The anchorage of a COVERAGE carrier is kept: only a CAPACITY carrier is offered, and only such a one turns. -/
theorem Shift.keeps_anchorage {s t : State} (h : Shift s t) (hc : CarriersOk s) {x : Site}
    (hx : (s.carrier x).role = .coverage) : (t.carrier x).anchorage = (s.carrier x).anchorage := by
  cases h with
  | quiet _ q => exact standing_anchorage (q.standing x)
  | turns n _ h =>
    by_cases hn : x = n
    · subst hn
      refine (h hc).anchor.resolve_left ?_
      rw [hx]; exact nofun
    · exact standing_anchorage ((h hc).others x hn)
  | joins n _ _ =>
    rw [carrier_joinQueue]
    split <;> rfl
  | offers t n rest hq _ =>
    have hn : x ≠ n := by
      rintro rfl
      obtain ⟨-, -, capacity, -⟩ := hc.of_queued (u := t) (n := x) (hq ▸ List.mem_cons_self)
      rw [hx] at capacity; cases capacity
    rw [carrier_issueOffer, if_neg hn]
    rfl

theorem any_congr_left {α : Type} {l : List α} {p q : α → Bool} (h : ∀ x ∈ l, p x = q x) : l.any p = l.any q := by
  refine Bool.eq_iff_iff.2 ?_
  simp only [List.any_eq_true]
  exact exists_congr fun x => and_congr_right fun hx => by rw [h x hx]

/-- What the anchors of a carrier are worth, from what each of them is worth. -/
theorem anchors_congr {s t : State} {m : Site} (hm : (t.carrier m).anchors = (s.carrier m).anchors)
    (hx : ∀ x ∈ (s.carrier m).anchors, (t.carrier x).anchorage = (s.carrier x).anchorage) :
    someAnchorActive t m = someAnchorActive s m ∧ someAnchorFit t m = someAnchorFit s m := by
  rw [someAnchorActive, someAnchorActive, someAnchorFit, someAnchorFit, hm]
  exact ⟨any_congr_left fun x h => congrArg Prod.fst (hx x h),
    any_congr_left fun x h => congrArg Prod.snd (hx x h)⟩

theorem Shift.keeps_anchors_worth {s t : State} (h : Shift s t) (hc : CarriersOk s) (ha : AnchorsOk s) {m : Site}
    (hp : (s.carrier m).provisioned = true) (hm : (t.carrier m).place = (s.carrier m).place) :
    someAnchorActive t m = someAnchorActive s m ∧ someAnchorFit t m = someAnchorFit s m := by
  refine anchors_congr (place_anchors hm) fun x hx => h.keeps_anchorage hc ?_
  obtain ⟨-, -, -, -, anchors⟩ := ha m hp
  obtain ⟨-, -, role, -⟩ := anchors x hx
  exact role

/-! ### Ripeness -/

theorem ripe_congr {s t : State} {m : Site} (hnight : night t = night s)
    (hlink : (t.port (s.carrier m).owner).link = (s.port (s.carrier m).owner).link)
    (hm : (t.carrier m).standing = (s.carrier m).standing) (hfit : someAnchorFit t m = someAnchorFit s m) :
    ripe t m = ripe s m := by
  have hplace := standing_place hm
  have seeded : (t.carrier m).load.isSome = (s.carrier m).load.isSome := congrArg Standing.seeded hm
  have elapsed : (t.carrier m).dwell.isElapsed = (s.carrier m).dwell.isElapsed := congrArg Standing.elapsed hm
  have passed : (t.carrier m).minAwake.hasPassed = (s.carrier m).minAwake.hasPassed := congrArg Standing.passed hm
  have unpinned : (t.carrier m).pins.isEmpty = (s.carrier m).pins.isEmpty := congrArg Standing.unpinned hm
  simp only [ripe, hnight, place_provisioned hplace, place_owner hplace, hlink, place_role hplace,
    standing_power hm, standing_stale hm, seeded, elapsed, passed, unpinned, hfit]

/-- A ripe carrier meets every condition of R52. -/
theorem ripe_conditions {s : State} {n : Site} (h : ripe s n = true) :
    (s.port (s.carrier n).owner).link = .linked ∧ night s = true ∧ someAnchorFit s n = true := by
  simp only [ripe, Bool.and_eq_true, beq_iff_eq] at h
  obtain ⟨⟨⟨-, link⟩, dark⟩, fit⟩ := h
  exact ⟨link, dark, fit⟩

theorem not_ripe_of_unprovisioned {s : State} {n : Site} (h : (s.carrier n).provisioned = false) :
    ripe s n = false := by
  refine Bool.eq_false_iff.2 fun hr => ?_
  rw [(ripe_needs hr).1] at h
  cases h

/-- A carrier whose standing is kept is as ripe as it was. -/
theorem Shift.keeps_ripe {s t : State} (h : Shift s t) (hc : CarriersOk s) (ha : AnchorsOk s) {m : Site}
    (hm : (t.carrier m).standing = (s.carrier m).standing) : ripe t m = ripe s m := by
  cases hp : (s.carrier m).provisioned with
  | true =>
    exact ripe_congr (h.setting hc).night ((h.setting hc).link _) hm
      (h.keeps_anchors_worth hc ha hp (standing_place hm)).2
  | false =>
    rw [not_ripe_of_unprovisioned hp,
      not_ripe_of_unprovisioned ((place_provisioned (standing_place hm)).trans hp)]

theorem not_ripe_of_power {s : State} {n : Site} (h : (s.carrier n).power ≠ .active) : ripe s n = false :=
  not_ripe_of (.inr (.inl h))

/-! ### The scheduling laws, site by site -/

/-- The law of ripeness at one site: it stands in a queue exactly when it is ripe, and then in its owner's. -/
def RipeAt (n : Site) (s : State) : Prop :=
  ∀ u, n ∈ (s.port u).offerQueue ↔ (s.carrier n).owner = u ∧ ripe s n = true

/-- A queued site meets a test of its anchors. -/
def QueuedMeets (test : State → Site → Bool) (n : Site) (s : State) : Prop :=
  ∀ u, n ∈ (s.port u).offerQueue → test s n = true

/-- The law of coverage at one queued site. -/
abbrev FitAt : Site → State → Prop := QueuedMeets someAnchorFit

/-- The law of coverage at one site in a group of power states. -/
def CoveredAt (group : Power → Bool) (n : Site) (s : State) : Prop :=
  group (s.carrier n).power = true → someAnchorActive s n = true

theorem ripeOk_iff {s : State} : RipeOk s ↔ ∀ n, RipeAt n s := ⟨fun h n u => h u n, fun h u n => h n u⟩

theorem coverageOk_iff {s : State} : CoverageOk s ↔ (∀ n, CoveredAt Power.sleepward n s) ∧ ∀ n, FitAt n s :=
  ⟨fun ⟨hc, hf⟩ => ⟨hc, fun n u => hf u n⟩, fun ⟨hc, hf⟩ => ⟨hc, fun u n => hf n u⟩⟩

/-- A carrier that is not ripe and in no queue meets the law of ripeness. -/
theorem ripeAt_of_out {n : Site} {s : State} (hr : ripe s n = false) (hq : Unqueued s n) : RipeAt n s :=
  fun u => ⟨fun h => absurd h (hq u), fun ⟨_, h⟩ => by rw [hr] at h; cases h⟩

theorem Shift.keeps_ripeAt {n : Site} {s t : State} (hc : CarriersOk s) (ha : AnchorsOk s) (h : Shift s t)
    (hs : RipeAt n s) : RipeAt n t := by
  cases h.placed hc n with
  | kept standing queues =>
    intro u
    rw [queues, hs u, h.keeps_ripe hc ha standing, place_owner (standing_place standing)]
  | turned unripe out _ _ => exact ripeAt_of_out unripe out
  | joined hr standing queues =>
    intro u
    rw [queues, h.keeps_ripe hc ha standing, place_owner (standing_place standing), hr]
    simp
  | offered u _ _ power out => exact ripeAt_of_out (not_ripe_of_power (by simp [power])) out

theorem someAnchorActive_of_fit {s : State} {n : Site} (h : someAnchorFit s n = true) :
    someAnchorActive s n = true := by
  simp only [someAnchorFit, List.any_eq_true, Bool.and_eq_true] at h
  obtain ⟨x, hx, active, -⟩ := h
  exact List.any_eq_true.2 ⟨x, hx, active⟩

theorem QueuedMeets.active_of_fit {n : Site} {s : State} (h : FitAt n s) : QueuedMeets someAnchorActive n s :=
  fun u hn => someAnchorActive_of_fit (h u hn)

theorem Shift.keeps_queuedMeets {test : State → Site → Bool} (ht : test = someAnchorActive ∨ test = someAnchorFit)
    {n : Site} {s t : State} (hc : CarriersOk s) (ha : AnchorsOk s) (h : Shift s t) (hs : QueuedMeets test n s) :
    QueuedMeets test n t := by
  intro u hn
  have same (hp : (s.carrier n).provisioned = true) (hm : (t.carrier n).place = (s.carrier n).place) :
      test t n = test s n := by
    obtain ⟨active, fit⟩ := h.keeps_anchors_worth hc ha hp hm
    rcases ht with rfl | rfl
    · exact active
    · exact fit
  cases h.placed hc n with
  | kept standing queues =>
    have queued := (queues u).1 hn
    rw [same (hc.of_queued queued).1 (standing_place standing)]
    exact hs u queued
  | turned _ out _ _ => exact absurd hn (out u)
  | joined hr standing _ =>
    have fit := (ripe_conditions hr).2.2
    rw [same (ripe_needs hr).1 (standing_place standing)]
    rcases ht with rfl | rfl
    · exact someAnchorActive_of_fit fit
    · exact fit
  | offered v _ _ _ out => exact absurd hn (out u)

theorem sleepward_of_inExchange {p : Power} (h : p.inExchange = true) : p.sleepward = true := by
  cases p <;> simp [Power.inExchange, Power.sleepward] at h ⊢

theorem not_offline_of_sleepward {p : Power} (h : p.sleepward = true) : p ≠ .offline := by
  rintro rfl; cases h

theorem Shift.keeps_coveredAt {group : Power → Bool} (hg : group = Power.sleepward ∨ group = Power.inExchange)
    {n : Site}
    {s t : State} (hc : CarriersOk s) (ha : AnchorsOk s) (h : Shift s t)
    (hf : QueuedMeets someAnchorActive n s) (hs : CoveredAt group n s) : CoveredAt group n t := by
  intro hp
  have sleepward : (t.carrier n).power.sleepward = true := by
    rcases hg with rfl | rfl
    · exact hp
    · exact sleepward_of_inExchange hp
  have of_same (place : (t.carrier n).place = (s.carrier n).place) (before : group (s.carrier n).power = true) :
      someAnchorActive t n = true := by
    have provisioned : (s.carrier n).provisioned = true := by
      rw [← place_provisioned place]
      exact provisioned_of_power (h.acts.keeps_carriers hc) (not_offline_of_sleepward sleepward)
    rw [(h.keeps_anchors_worth hc ha provisioned place).1]
    exact hs before
  cases h.placed hc n with
  | kept standing _ => exact of_same (standing_place standing) (standing_power standing ▸ hp)
  | turned _ _ place calms =>
    refine of_same (place (not_offline_of_sleepward sleepward)) ?_
    rcases hg with rfl | rfl
    · exact calms.1 hp
    · exact calms.2 hp
  | joined _ standing _ => exact of_same (standing_place standing) (standing_power standing ▸ hp)
  | offered u queued place _ _ =>
    rw [(h.keeps_anchors_worth hc ha (hc.of_queued queued).1 place).1]
    exact hf u queued

/-! ### Drain slots -/

/-- A carrier counts among the offers a tenant has out (R57). -/
def countsFor (u : Tenant) (c : Carrier) : Bool := c.provisioned && c.owner == u && c.power.inExchange

theorem outstanding_eq (s : State) (u : Tenant) :
    outstanding s u = allSites.countP fun n => countsFor u (s.carrier n) :=
  rfl

theorem outstanding_le {s t : State} {u : Tenant}
    (h : ∀ n, countsFor u (t.carrier n) = true → countsFor u (s.carrier n) = true) :
    outstanding t u ≤ outstanding s u :=
  List.countP_mono_left fun n _ hn => h n hn

theorem countsFor_of_place {c d : Carrier} {u : Tenant} (hp : c.place = d.place)
    (hx : c.power.inExchange = true → d.power.inExchange = true)
    (hc : countsFor u c = true) : countsFor u d = true := by
  rw [countsFor, Bool.and_eq_true] at hc ⊢
  exact ⟨by rw [← place_provisioned hp, ← place_owner hp]; exact hc.1, hx hc.2⟩

theorem countsFor_of_standing {c d : Carrier} {u : Tenant} (h : c.standing = d.standing) (hc : countsFor u c = true) :
    countsFor u d = true :=
  countsFor_of_place (standing_place h) (fun hx => standing_power h ▸ hx) hc

theorem Change.outstanding_le {n : Site} {s t : State} (h : Change n s t) (u : Tenant) :
    outstanding t u ≤ outstanding s u := by
  refine Machine.outstanding_le fun m hm => ?_
  by_cases hmn : m = n
  · subst hmn
    have exchange : (t.carrier m).power.inExchange = true := by
      rw [countsFor, Bool.and_eq_true] at hm
      exact hm.2
    exact countsFor_of_place (h.place (not_offline_of_sleepward (sleepward_of_inExchange exchange))) h.calms.2 hm
  · exact countsFor_of_standing (h.others m hmn) hm

theorem outstanding_offers {s : State} {t u : Tenant} {n : Site} {rest : List Site} (hc : CarriersOk s)
    (hq : (s.port t).offerQueue = n :: rest) :
    outstanding (issueOffer n (s.modPort t fun p => { p with offerQueue := rest })) u =
      if u = t then outstanding s u + 1 else outstanding s u := by
  obtain ⟨provisioned, owner, -, active⟩ := hc.of_queued (u := t) (n := n) (hq ▸ List.mem_cons_self)
  have record (m : Site) := carrier_issueOffer (s.modPort t fun p => { p with offerQueue := rest }) n m
  rw [outstanding_eq, outstanding_eq]
  split
  · rename_i hu
    subst hu
    refine countP_eq_succ (x := n) ?_ ?_ (fun m hm => ?_) allSites_nodup (mem_allSites n)
    · rw [record, if_pos rfl]
      simp [countsFor, Carrier.offeredNow, provisioned, owner, Power.inExchange]
    · simp [countsFor, active, Power.inExchange]
    · rw [record, if_neg hm]; rfl
  · rename_i hu
    refine List.countP_congr fun m _ => ?_
    rw [record]
    split
    · rename_i hm
      subst hm
      have other : t ≠ u := Ne.symm hu
      simp [countsFor, Carrier.offeredNow, owner, other]
    · rfl

/-- No shift takes more offers out than there are drain slots (R57). -/
theorem Shift.keeps_slots {u : Tenant} {s t : State} (hc : CarriersOk s) (h : Shift s t)
    (hs : outstanding s u ≤ (s.port u).drainSlots) : outstanding t u ≤ (t.port u).drainSlots := by
  rw [(h.setting hc).slots u]
  cases h with
  | quiet _ q => exact (outstanding_le fun m => countsFor_of_standing (q.standing m)).trans hs
  | turns n _ h => exact ((h hc).outstanding_le u).trans hs
  | joins n _ _ =>
    refine (outstanding_le fun m hm => ?_).trans hs
    rw [carrier_joinQueue] at hm
    split at hm <;> exact hm
  | offers t n rest hq free =>
    rw [outstanding_offers hc hq]
    split
    · rename_i hu; subst hu; exact free
    · exact hs

/-! ### A tenant whose queue nothing joins -/

/-- No carrier of the tenant can be ripe: it is not LINKED, or there is no night. -/
def Barred (u : Tenant) (s : State) : Prop := (s.port u).link ≠ .linked ∨ night s = false

/-- A tenant without a ripe carrier and with an empty offer queue. -/
structure Hushed (u : Tenant) (s : State) : Prop where
  barred : Barred u s
  empty : (s.port u).offerQueue = []

theorem Barred.not_ripe {u : Tenant} {s : State} (h : Barred u s) {n : Site} (hn : (s.carrier n).owner = u) :
    ripe s n = false := by
  refine Bool.eq_false_iff.2 fun hr => ?_
  obtain ⟨link, dark, -⟩ := ripe_conditions hr
  rcases h with h | h
  · rw [hn] at link; exact h link
  · rw [dark] at h; cases h

theorem Barred.of_setting {u : Tenant} {s t : State} (h : Barred u s) (k : Setting s t) : Barred u t := by
  rw [Barred, k.link, k.night]; exact h

theorem Shift.keeps_hushed {u : Tenant} {s t : State} (hc : CarriersOk s) (h : Shift s t) (hs : Hushed u s) :
    Hushed u t := by
  refine ⟨hs.barred.of_setting (h.setting hc), List.eq_nil_iff_forall_not_mem.2 fun m hm => ?_⟩
  cases h.placed hc m with
  | kept _ queues => exact absurd hm ((queues u).not.2 (by simp [hs.empty]))
  | turned _ out _ _ => exact out u hm
  | joined hr _ queues =>
    rw [hs.barred.not_ripe ((queues u).1 hm)] at hr
    cases hr
  | offered v _ _ _ out => exact out u hm

/-- A carrier of a hushed tenant in a group of R46 or R61 was there before, and belonged to the tenant. -/
theorem Shift.calms {u : Tenant} {s t : State} (hc : CarriersOk s) (h : Shift s t) (hs : Hushed u s) {m : Site}
    (hm : (t.carrier m).owner = u) (hp : (t.carrier m).power.sleepward = true) :
    (s.carrier m).owner = u ∧ (s.carrier m).power.Calms (t.carrier m).power := by
  cases h.placed hc m with
  | kept standing _ =>
    exact ⟨(place_owner (standing_place standing)).symm.trans hm, by rw [standing_power standing]; exact .same _⟩
  | turned _ _ place calms =>
    exact ⟨(place_owner (place (not_offline_of_sleepward hp))).symm.trans hm, calms⟩
  | joined _ standing _ =>
    exact ⟨(place_owner (standing_place standing)).symm.trans hm, by rw [standing_power standing]; exact .same _⟩
  | offered v queued place _ _ =>
    obtain ⟨-, owner, -⟩ := hc.of_queued queued
    rw [place_owner place, owner] at hm
    rw [hm, hs.empty] at queued
    cases queued

/-- A carrier of tenant u in a group of power states does not exist. -/
def NoneIn (group : Power → Bool) (u : Tenant) (n : Site) (s : State) : Prop :=
  (s.carrier n).owner = u → group (s.carrier n).power = false

theorem Shift.keeps_noneIn {group : Power → Bool} (hg : group = Power.sleepward ∨ group = Power.inExchange)
    {u : Tenant} {n : Site} {s t : State} (hc : CarriersOk s) (h : Shift s t) (hs : Hushed u s)
    (hn : NoneIn group u n s) : NoneIn group u n t := by
  intro howner
  refine Bool.eq_false_iff.2 fun hp => ?_
  have sleepward : (t.carrier n).power.sleepward = true := by
    rcases hg with rfl | rfl
    · exact hp
    · exact sleepward_of_inExchange hp
  obtain ⟨owner, calms⟩ := h.calms hc hs howner sleepward
  have before : group (s.carrier n).power = true := by
    rcases hg with rfl | rfl
    · exact calms.1 hp
    · exact calms.2 hp
  rw [hn owner] at before
  cases before

end Sys2Proof.Machine
end

/-! # The shared operations as shifts -/

section

namespace Sys2Proof.Machine

theorem Shift.run {s t : State} (h : Shift s t) : Shifts s t := .single h

/-! ### Changes that the scheduling laws do not see -/

/-- What the scheduling laws look at in a port. -/
def Port.standing (p : Port) : LinkState × Nat × List Site := (p.link, p.drainSlots, p.offerQueue)

theorem night_of_parts {s t : State} (hc : t.clock = s.clock) (hi : t.inputs = s.inputs) : night t = night s := by
  simp only [night, siteHold, hc, hi]

theorem quiet_of_parts {s t : State} (hc : t.clock = s.clock) (hi : t.inputs = s.inputs)
    (carriers : ∀ m, (t.carrier m).standing = (s.carrier m).standing)
    (ports : ∀ u, (t.port u).standing = (s.port u).standing) : Quiet s t where
  night := night_of_parts hc hi
  link u := congrArg Prod.fst (ports u)
  slots u := congrArg (fun p => p.2.1) (ports u)
  standing := carriers
  queue u := congrArg (fun p => p.2.2) (ports u)

theorem quiet_of_carriers_ports {s t : State} (hc : t.clock = s.clock) (hi : t.inputs = s.inputs)
    (carriers : t.carriers = s.carriers) (ports : t.ports = s.ports) : Quiet s t :=
  quiet_of_parts hc hi (fun m => by rw [State.carrier, carriers]; rfl) fun u => by rw [State.port, ports]; rfl

theorem quiet_modPort (s : State) (t : Tenant) (f : Port → Port) (hf : ∀ p, (f p).standing = p.standing) :
    Quiet s (s.modPort t f) :=
  quiet_of_parts rfl rfl (fun _ => rfl) fun u => by
    rw [port_modPort]
    split
    · exact hf _
    · rfl

theorem quiet_modCarrier (s : State) (n : Site) (f : Carrier → Carrier)
    (hf : (f (s.carrier n)).standing = (s.carrier n).standing) :
    Quiet s (s.modCarrier n f) :=
  quiet_of_parts rfl rfl (fun m => by
    rw [carrier_modCarrier]
    split
    · rename_i h; subst h; exact hf
    · rfl) fun _ => rfl

theorem Quiet.refl (s : State) : Quiet s s := quiet_of_carriers_ports rfl rfl rfl rfl

theorem Quiet.trans {s t u : State} (h : Quiet s t) (k : Quiet t u) : Quiet s u where
  toSetting := h.toSetting.trans k.toSetting
  standing m := (k.standing m).trans (h.standing m)
  queue v := (k.queue v).trans (h.queue v)

theorem post_quiet (t : Tenant) (x : Notice) (s : State) : Quiet s (post t x s) :=
  quiet_modPort s t _ fun p => by split <;> rfl

theorem post_shift (t : Tenant) (x : Notice) (s : State) : Shift s (post t x s) :=
  .quiet (post_acts t x s) (post_quiet t x s)

theorem holdoff_shift (x : Site) (v : Option Time) (s : State) :
    Shift s (s.modCarrier x fun c => { c with holdoff := v }) :=
  .quiet (Act.holdoff x v).run (quiet_modCarrier s x _ rfl)

theorem endOfDrain_shifts (anchors : List Site) (s : State) : Shifts s (endOfDrain anchors s) := by
  refine forList_induction (Shifts s) _ (fun x u h => h.trans ?_) anchors s .refl
  split
  · exact (holdoff_shift x _ u).run
  · exact .refl

theorem leftDraining_shifts (was : Power) (anchors : List Site) (s : State) :
    Shifts s (leftDraining was anchors s) := by
  rw [leftDraining]
  split
  · exact endOfDrain_shifts anchors s
  · exact .refl

theorem carriers_grant (s : State) : (grant s).carriers = s.carriers ∧ (grant s).ports = s.ports := by
  rcases grant_cases s with ⟨_, _, _, _, h⟩ | ⟨h, _⟩ <;> rw [h] <;> exact ⟨rfl, rfl⟩

/-- Carriers, ports, clock and lines are as they were. -/
structure Apart (s t : State) : Prop where
  clock : t.clock = s.clock
  inputs : t.inputs = s.inputs
  carriers : t.carriers = s.carriers
  ports : t.ports = s.ports

theorem Apart.refl (s : State) : Apart s s := ⟨rfl, rfl, rfl, rfl⟩

theorem Apart.trans {s t u : State} (h : Apart s t) (k : Apart t u) : Apart s u :=
  ⟨k.clock.trans h.clock, k.inputs.trans h.inputs, k.carriers.trans h.carriers, k.ports.trans h.ports⟩

theorem Apart.quiet {s t : State} (h : Apart s t) : Quiet s t :=
  quiet_of_carriers_ports h.clock h.inputs h.carriers h.ports

theorem modRail_apart (s : State) (r : RailId) (f : Rail → Rail) : Apart s (s.modRail r f) := ⟨rfl, rfl, rfl, rfl⟩

theorem grant_apart (s : State) : Apart s (grant s) :=
  ⟨(grant_cascade s).clock, (grant_cascade s).inputs, (carriers_grant s).1, (carriers_grant s).2⟩

theorem queueRail_apart (r : RailId) (cls : RampClass) (s : State) : Apart s (queueRail r cls s) := by
  refine .trans (t := joinRamp r cls (s.modRail r fun x => { x with state := .queued })) ?_ (grant_apart _)
  cases cls <;> exact ⟨rfl, rfl, rfl, rfl⟩

theorem raiseRail_apart (r : RailId) (cls : RampClass) (s : State) : Apart s (raiseRail r cls s) := by
  cases cls with
  | ordinary => exact .refl s
  | urgent =>
    rw [raiseRail]
    split
    · exact ⟨rfl, rfl, rfl, rfl⟩
    · exact .refl s

/-! ### Changes of one carrier -/

theorem port_of_ports {s t : State} (h : t.ports = s.ports) (u : Tenant) : t.port u = s.port u :=
  congrArg (fun p => Ports.get p u) h

/-- A record is written; its carrier may have left its owner's queue. -/
theorem Change.of_record {n : Site} {s t : State} (hc : t.clock = s.clock) (hi : t.inputs = s.inputs)
    (others : ∀ m, m ≠ n → t.carrier m = s.carrier m) (ports : t.ports = s.ports ∨ t.ports = (unqueue n s).ports)
    (place : (t.carrier n).power ≠ .offline → (t.carrier n).place = (s.carrier n).place)
    (calms : (s.carrier n).power.Calms (t.carrier n).power) : Change n s t := by
  have left := setting_of_cascade (unqueue_cascade n s)
  have port (u : Tenant) : t.port u = s.port u ∨ t.port u = (unqueue n s).port u :=
    ports.imp (fun h => port_of_ports h u) (fun h => port_of_ports h u)
  refine ⟨⟨night_of_parts hc hi, fun u => ?_, fun u => ?_⟩, fun m hm => by rw [others m hm], fun u m => ?_,
    fun u m hm hq => ?_, place, calms⟩
  · rcases port u with h | h <;> rw [h]
    exact left.link u
  · rcases port u with h | h <;> rw [h]
    exact left.slots u
  · rcases port u with h | h <;> rw [h]
    · exact id
    · exact mem_offerQueue_of_unqueue
  · rcases port u with h | h <;> rw [h]
    · exact hq
    · rw [offerQueue_unqueue]
      split
      · simp [hq, hm]
      · exact hq

theorem Change.quiet {n : Site} {s t u : State} (h : Change n s t) (k : Quiet t u) : Change n s u where
  toSetting := h.toSetting.trans k.toSetting
  others m hm := (k.standing m).trans (h.others m hm)
  queued v m hm := h.queued v m (k.queue v ▸ hm)
  stays v m hm hq := by rw [k.queue]; exact h.stays v m hm hq
  place hp := by
    have same := k.standing n
    rw [standing_place same]
    exact h.place (by rwa [← standing_power same])
  calms := by rw [standing_power (k.standing n)]; exact h.calms

theorem Change.modCarrier (s : State) (n : Site) (f : Carrier → Carrier)
    (place : (f (s.carrier n)).power ≠ .offline → (f (s.carrier n)).place = (s.carrier n).place)
    (calms : (s.carrier n).power.Calms (f (s.carrier n)).power) : Change n s (s.modCarrier n f) :=
  .of_record rfl rfl (fun m hm => carrier_modCarrier_ne s f hm) (.inl rfl)
    (by rw [carrier_modCarrier_same]; exact place) (by rw [carrier_modCarrier_same]; exact calms)

/-- A changed carrier that is not ACTIVE has turned. -/
theorem Change.turn_of_power {n : Site} {s t : State} (h : Change n s t) (ht : CarriersOk t)
    (hp : (t.carrier n).power ≠ .active)
    (anchor : (s.carrier n).role = .capacity ∨ (t.carrier n).anchorage = (s.carrier n).anchorage) : Turn n s t where
  toChange := h
  unripe := not_ripe_of_power hp
  out := unqueued_of_power ht hp _
  anchor := anchor

theorem anchorage_of_power {c d : Carrier} (hc : c.power ≠ .active) (hd : d.power ≠ .active) :
    c.anchorage = d.anchorage := by
  have dark (c : Carrier) (h : c.power ≠ .active) : c.anchorage = (false, false) := by
    rw [Carrier.anchorage, beq_eq_false_iff_ne.2 h]; rfl
  rw [dark c hc, dark d hd]

/-- A shift of a carrier that ends in a state other than ACTIVE. -/
theorem Change.shift_of_power {n : Site} {s t : State} (acts : Acts s t) (h : Change n s t)
    (hp : (t.carrier n).power ≠ .active) (anchor : (s.carrier n).role = .capacity ∨ (s.carrier n).power ≠ .active) :
    Shift s t :=
  .turns n acts fun hc => h.turn_of_power (acts.keeps_carriers hc) hp
    (anchor.imp_right fun hs => anchorage_of_power hp hs)

theorem unqueue_change (n : Site) (s : State) : Change n s (unqueue n s) :=
  .of_record rfl rfl (fun _ hm => carrier_unqueue_ne s hm) (.inr rfl) (fun _ => by rw [carrier_unqueue_same]; rfl)
    (by rw [carrier_unqueue_same]; exact .same _)

theorem owner_unqueue (n : Site) (s : State) : ((unqueue n s).carrier n).owner = (s.carrier n).owner := by
  rw [carrier_unqueue_same]

theorem not_mem_unqueue (n : Site) (s : State) : n ∉ ((unqueue n s).port (s.carrier n).owner).offerQueue := by
  rw [offerQueue_unqueue]
  simp

theorem ripe_unqueue (n : Site) (s : State) (h : ripe s n = false) : ripe (unqueue n s) n = false := by
  refine Bool.eq_false_iff.2 fun hr => ?_
  have standing (m : Site) : ((unqueue n s).carrier m).standing = (s.carrier m).standing := by
    rw [carrier_unqueue]
    split <;> rfl
  have same := ripe_congr (unqueue_cascade n s).night ((unqueue_cascade n s).link _) (standing n)
    (anchors_congr (place_anchors (standing_place (standing n))) fun x _ => standing_anchorage (standing x)).2
  rw [same, h] at hr
  cases hr

theorem unqueue_shift (n : Site) (s : State) (h : ripe s n = false) : Shift s (unqueue n s) :=
  .turns n (Eases.acts (Ease.leaves n).run) fun _ =>
    { toChange := unqueue_change n s
      unripe := ripe_unqueue n s h
      out := by rw [owner_unqueue]; exact not_mem_unqueue n s
      anchor := .inr (by rw [carrier_unqueue_same]; rfl) }

/-! ### Dispatch and re-evaluation -/

theorem dispatchUpTo_shifts : ∀ (k : Nat) (t : Tenant) (s : State), Shifts s (dispatchUpTo k t s)
  | 0, _, _ => .refl
  | k + 1, t, s => by
    rw [dispatchUpTo]
    split
    · exact .refl
    · rename_i n rest hq
      split
      · rename_i hs
        exact .head (.offers t n rest hq hs) (dispatchUpTo_shifts k t _)
      · exact .refl

theorem dispatch_shifts (t : Tenant) (s : State) : Shifts s (dispatch t s) := dispatchUpTo_shifts _ t s

theorem leftExchange_shifts (was : Power) (t : Tenant) (s : State) : Shifts s (leftExchange was t s) := by
  rw [leftExchange]
  split
  · exact dispatch_shifts t s
  · exact .refl

theorem reeval_of_queued {n : Site} {s : State} (hr : ripe s n = true)
    (hq : n ∈ (s.port (s.carrier n).owner).offerQueue) : reeval n s = s := by
  rw [reeval, if_pos hr, if_pos (List.contains_iff_mem.2 hq)]

theorem reeval_of_unqueued {n : Site} {s : State} (hr : ripe s n = true)
    (hq : n ∉ (s.port (s.carrier n).owner).offerQueue) :
    reeval n s = dispatch (s.carrier n).owner (joinQueue n s) := by
  rw [reeval, if_pos hr, if_neg fun h => hq (List.contains_iff_mem.1 h)]

/-- What a re-evaluation does, by the three cases of R53. -/
theorem reeval_cases (n : Site) (s : State) :
    ripe s n = false ∧ reeval n s = unqueue n s ∨
    ripe s n = true ∧ n ∈ (s.port (s.carrier n).owner).offerQueue ∧ reeval n s = s ∨
    ripe s n = true ∧ n ∉ (s.port (s.carrier n).owner).offerQueue ∧
      reeval n s = dispatch (s.carrier n).owner (joinQueue n s) := by
  cases hr : ripe s n with
  | false => exact .inl ⟨rfl, reeval_of_not_ripe hr⟩
  | true =>
    by_cases hq : n ∈ (s.port (s.carrier n).owner).offerQueue
    · exact .inr (.inl ⟨rfl, hq, reeval_of_queued hr hq⟩)
    · exact .inr (.inr ⟨rfl, hq, reeval_of_unqueued hr hq⟩)

theorem reeval_shifts (n : Site) (s : State) : Shifts s (reeval n s) := by
  rcases reeval_cases n s with ⟨hr, h⟩ | ⟨_, _, h⟩ | ⟨hr, hq, h⟩ <;> rw [h]
  · exact (unqueue_shift n s hr).run
  · exact .head (.joins n hr hq) (dispatch_shifts _ _)

theorem forList_shifts {α : Type} (f : α → State → State) (hf : ∀ x s, Shifts s (f x s)) (l : List α) (s : State) :
    Shifts s (forList l f s) :=
  forList_induction (Shifts s) f (fun x u h => h.trans (hf x u)) l s .refl

/-- A loop that re-evaluates chosen sites. -/
def reevalWhere (chosen : State → Site → Bool) (s : State) : State :=
  forSites (fun n u => if chosen u n then reeval n u else u) s

theorem reevalOwned_eq_where (t : Tenant) (s : State) : reevalOwned t s =
    reevalWhere (fun u n => (u.carrier n).provisioned && (u.carrier n).owner == t) s :=
  rfl

theorem nightStart_eq_where (s : State) : nightStart s =
    reevalWhere (fun u n => (u.carrier n).provisioned && (u.carrier n).role == .capacity) s :=
  rfl

theorem reevalWhere_shifts (chosen : State → Site → Bool) (s : State) : Shifts s (reevalWhere chosen s) := by
  refine forList_shifts _ (fun n u => ?_) allSites s
  split
  · exact reeval_shifts n u
  · exact .refl

theorem reevalDependents_shifts (x : Site) (s : State) : Shifts s (reevalDependents x s) := reevalWhere_shifts _ s

/-! ### Returns to ACTIVE -/

theorem carrier_enterActive_same (n : Site) (s : State) : (enterActive n s).carrier n =
    { s.carrier n with
      power := .active, load := none, stale := false, staleTimer := none, dwell := .absent
      minAwake := startMinAwake s (s.carrier n).role, ripeTime := none, answerTimer := none, drainTimer := none
      holdoff := none } := by
  rw [enterActive, carrier_unqueue_same, carrier_modCarrier_same]

theorem ports_enterActive (n : Site) (s : State) : (enterActive n s).ports = (unqueue n s).ports := by
  simp only [enterActive, unqueue, carrier_modCarrier_same]
  rfl

theorem enterActive_change (n : Site) (s : State) : Change n s (enterActive n s) :=
  .of_record rfl rfl (fun _ hm => carrier_enterActive_ne s hm) (.inr (ports_enterActive n s))
    (fun _ => by rw [carrier_enterActive_same]; rfl) (by rw [carrier_enterActive_same]; exact .of_awake rfl)

theorem enterActive_not_ripe (n : Site) (s : State) : ripe (enterActive n s) n = false :=
  not_ripe_of (by rw [carrier_enterActive_same]; exact .inr (.inr (.inl rfl)))

/-- A CAPACITY carrier becomes ACTIVE: it is unseeded and no anchor. -/
theorem enterActive_shift (n : Site) (s : State) (h : (s.carrier n).power.inExchange = true ∨
    (s.carrier n).power = .waking ∧ (s.carrier n).role = .capacity) : Shift s (enterActive n s) := by
  refine .turns n (Eases.acts (Ease.activates n (h.imp_right And.left)).run) fun hc => ?_
  refine { toChange := enterActive_change n s, unripe := enterActive_not_ripe n s, out := ?_, anchor := .inl ?_ }
  · rw [carrier_enterActive_same, State.port, ports_enterActive]
    exact not_mem_unqueue n s
  · rcases h with h | ⟨-, h⟩
    · obtain ⟨-, coverage, -⟩ := hc.record n
      cases hr : (s.carrier n).role with
      | coverage => rw [sleepward_of_inExchange h] at coverage; cases coverage hr
      | capacity => rfl
    · exact h

/-- What follows a withdrawn carrier's own return to ACTIVE. -/
theorem withdraw_shifts_after (n : Site) (why : Reason) (s : State) (h : (s.carrier n).power.inExchange = true) :
    Shifts (enterActive n s) (withdraw n why s) := by
  rw [withdraw, if_pos h]
  exact ((leftDraining_shifts _ _ _).tail (post_shift _ _ _)).trans (dispatch_shifts _ _)

theorem withdraw_of_not {n : Site} {why : Reason} {s : State} (h : (s.carrier n).power.inExchange = false) :
    withdraw n why s = s := by
  rw [withdraw, if_neg (by simp [h])]

theorem withdraw_shifts (n : Site) (why : Reason) (s : State) : Shifts s (withdraw n why s) := by
  cases h : (s.carrier n).power.inExchange with
  | true => exact .head (enterActive_shift n s (.inl h)) (withdraw_shifts_after n why s h)
  | false => rw [withdraw_of_not h]

theorem powered_capacity_shifts {n : Site} {s : State} (hp : (s.carrier n).power = .waking)
    (hr : (s.carrier n).role = .capacity) : Shifts s (powered n s) := by
  rw [powered]
  simp only [hr]
  exact .head (enterActive_shift n s (.inr ⟨hp, hr⟩)) (post_shift _ _ _).run

/-! ### Wakes -/

/-- What the rail makes of a carrier in WAKING, given what its power makes of it. -/
theorem enterWaking_run {R : State → State → Prop} (hR : ∀ u v, Shift u v → R u v) (n : Site)
    (cls : RampClass) (s : State)
    (hpow : ∀ u, (u.carrier n).power = .waking → (u.carrier n).role = (s.carrier n).role →
      Relation.ReflTransGen R u (powered n u)) :
    Relation.ReflTransGen R (s.modCarrier n fun c => { c with power := .waking, cause := none })
      (enterWaking n cls s) := by
  let w := s.modCarrier n fun c => { c with power := .waking, cause := none }
  have waking : (w.carrier n).power = .waking := by simp [w]
  have role : (w.carrier n).role = (s.carrier n).role := by simp [w]
  have quiet {v : State} (acts : Acts w v) (q : Quiet w v) : Relation.ReflTransGen R w v :=
    .single (hR _ _ (.quiet acts q))
  rw [enterWaking]
  split
  · exact hpow w waking role
  · exact (quiet (rail_acts _ _ w fun _ => by rfl) (quiet_of_carriers_ports rfl rfl rfl rfl)).trans
      (hpow _ waking role)
  · exact quiet (queueRail_acts _ cls w) (queueRail_apart _ cls w).quiet
  · exact quiet (raiseRail_moves _ cls w).acts (raiseRail_apart _ cls w).quiet
  · exact .refl
  · exact .refl
  · rename_i fault
    rw [faultedOnRail]
    refine .tail (.single (hR _ _ ?_)) (hR _ _ (post_shift _ _ _))
    refine (Change.modCarrier w n _ ?_ (.of_awake rfl)).shift_of_power
      (Move.meetsFault n waking (by simpa [w] using fault)).run.acts ?_ (.inr (by simp))
    · exact fun _ => rfl
    · simp

/-- The state in which a sleeper has left the stack for WAKING. -/
def woken (n : Site) (s : State) : State :=
  State.modCarrier { s with stack := s.stack.filter (· != n) } n fun c => { c with power := .waking, cause := none }

theorem carrier_woken_same (n : Site) (s : State) :
    (woken n s).carrier n = { s.carrier n with power := .waking, cause := none } :=
  carrier_modCarrier_same { s with stack := s.stack.filter (· != n) } n _

theorem woken_shift (n : Site) (s : State) (h : (s.carrier n).power = .asleep) : Shift s (woken n s) := by
  refine Change.shift_of_power (n := n) (Move.wakes n h).run.acts (.of_record rfl rfl
    (fun m hm => carrier_modCarrier_ne { s with stack := s.stack.filter (· != n) } _ hm) (.inl rfl) (fun _ => ?_) ?_) ?_
    (.inr (by simp [h]))
  · rw [carrier_woken_same]; rfl
  · rw [carrier_woken_same]; exact .of_awake rfl
  · rw [carrier_woken_same]; exact nofun

theorem wakeCarrier_of_not {n : Site} {cls : RampClass} {s : State} (h : (s.carrier n).power ≠ .asleep) :
    wakeCarrier n cls s = s := by
  rw [wakeCarrier, if_neg (by simpa using h)]

/-- A sleeper is a CAPACITY carrier (R5). -/
theorem capacity_of_sleepward {s : State} (hc : CarriersOk s) {n : Site} (h : (s.carrier n).power.sleepward = true) :
    (s.carrier n).role = .capacity := by
  obtain ⟨-, coverage, -⟩ := hc.record n
  cases hr : (s.carrier n).role with
  | coverage => rw [coverage hr] at h; cases h
  | capacity => rfl

/-- What follows a sleeper's own entry to WAKING. -/
theorem wakeCarrier_shifts_after (n : Site) (cls : RampClass) (s : State) (h : (s.carrier n).power = .asleep)
    (hr : (s.carrier n).role = .capacity) : Shifts (woken n s) (wakeCarrier n cls s) := by
  rw [wakeCarrier, if_pos (by simpa using h)]
  exact enterWaking_run (fun _ _ => id) n cls _ fun u hw hu => powered_capacity_shifts hw (hu.trans hr)

theorem wakeCarrier_shifts (n : Site) (cls : RampClass) (s : State) : Shifts s (wakeCarrier n cls s) := by
  by_cases h : (s.carrier n).power = .asleep
  · by_cases hr : (s.carrier n).role = .capacity
    · exact .head (woken_shift n s h) (wakeCarrier_shifts_after n cls s h hr)
    · refine .single (.turns n (wakeCarrier_moves n cls s).acts fun hc => absurd ?_ hr)
      exact capacity_of_sleepward hc (by simp [h, Power.sleepward])
  · rw [wakeCarrier_of_not h]

theorem bulkWake_shifts (chosen : State → Site → Bool) (cls : RampClass) (s : State) :
    Shifts s (bulkWake chosen cls s) := by
  refine forList_shifts _ (fun n u => ?_) s.stack s
  split
  · exact wakeCarrier_shifts n cls u
  · exact .refl

/-- A loop that withdraws chosen sites. -/
def withdrawWhere (chosen : State → Site → Bool) (why : Reason) (s : State) : State :=
  forSites (fun n u => if chosen u n then withdraw n why u else u) s

theorem withdrawWhere_shifts (chosen : State → Site → Bool) (why : Reason) (s : State) :
    Shifts s (withdrawWhere chosen why s) := by
  refine forList_shifts _ (fun n u => ?_) allSites s
  split
  · exact withdraw_shifts n why u
  · exact .refl

theorem restoration_eq_where (x : Site) (s : State) :
    restoration x s = bulkWake (restorable x) .urgent (withdrawWhere (restorable x) .coverage s) := rfl

theorem restoration_shifts (x : Site) (s : State) : Shifts s (restoration x s) :=
  (withdrawWhere_shifts _ _ s).trans (bulkWake_shifts _ _ _)

/-- What follows an anchor's exit from ACTIVE. -/
theorem depart_shifts (x : Site) (s : State) : Shifts s (restoration x (reevalDependents x s)) :=
  (reevalDependents_shifts x s).trans (restoration_shifts x _)

/-! ### What a sweep of withdrawals and wakes reaches -/

/-- A loop makes Q at the turn of x, and every other turn keeps it, P holding throughout. -/
theorem forList_reaches {α : Type} {P Q : State → Prop} {f : α → State → State} {x : α}
    (keepP : ∀ y u, P u → P (f y u)) (make : ∀ u, P u → Q (f x u)) (keepQ : ∀ y u, P u → Q u → Q (f y u)) :
    ∀ (l : List α) (s : State), P s → x ∈ l ∨ Q s → Q (forList l f s)
  | [], _, _, h => h.resolve_left nofun
  | y :: l, s, hP, h => by
    refine forList_reaches keepP make keepQ l (f y s) (keepP y s hP) ?_
    rcases h with h | h
    · rcases List.mem_cons.1 h with rfl | h
      · exact .inr (make s hP)
      · exact .inl h
    · exact .inr (keepQ y s hP h)

/-- What site n must meet while it is in a group of power states. -/
def Meets (group : Power → Bool) (n : Site) (X : State → Prop) (s : State) : Prop :=
  group (s.carrier n).power = true → X s

theorem meets_sleepward_of {n : Site} {X : State → Prop} {s : State} (h : Meets Power.inExchange n X s)
    (ha : (s.carrier n).power ≠ .asleep) : Meets Power.sleepward n X s := by
  intro hp
  refine h ?_
  cases hn : (s.carrier n).power <;> simp [hn, Power.sleepward, Power.inExchange] at hp ha ⊢

theorem meets_of_not_sleepward {group : Power → Bool} (hg : group = Power.sleepward ∨ group = Power.inExchange)
    {n : Site}
    {X : State → Prop} {s : State} (h : (s.carrier n).power.sleepward = false) : Meets group n X s := by
  intro hp
  rcases hg with rfl | rfl
  · rw [h] at hp; cases hp
  · rw [sleepward_of_inExchange hp] at h; cases h

/-- Withdrawals and then wakes of chosen carriers leave none in OFFERED, DRAINING or ASLEEP but those that meet X, where
a carrier not chosen meets X, and shifts keep a carrier that meets it. -/
theorem sweep_meets {H X : State → Prop} {n : Site} {chosen : State → Site → Bool} (why : Reason) (cls : RampClass)
    (carriers : ∀ u, H u → CarriersOk u) (keepH : ∀ u v, Shift u v → H u → H v)
    (keepX : ∀ group, group = Power.sleepward ∨ group = Power.inExchange →
      ∀ u v, Shift u v → H u → Meets group n X u → Meets group n X v)
    (skip : ∀ u, H u → chosen u n = false → X u) {s : State} (hs : H s) :
    Meets Power.sleepward n X (bulkWake chosen cls (withdrawWhere chosen why s)) := by
  have runH {u v : State} (h : Shifts u v) (hu : H u) : H v := by
    induction h with
    | refl => exact hu
    | tail _ m ih => exact keepH _ _ m ih
  have runX {group : Power → Bool} (hg : group = Power.sleepward ∨ group = Power.inExchange) {u v : State}
      (h : Shifts u v) (hu : H u) (hx : Meets group n X u) : Meets group n X v := by
    induction h with
    | refl => exact hx
    | tail k m ih => exact keepX group hg _ _ m (runH k hu) ih
  have withdrawTurn (m : Site) (u : State) : Shifts u (if chosen u m then withdraw m why u else u) := by
    split
    · exact withdraw_shifts m why u
    · exact .refl
  have wakeTurn (m : Site) (u : State) : Shifts u (if chosen u m then wakeCarrier m cls u else u) := by
    split
    · exact wakeCarrier_shifts m cls u
    · exact .refl
  have exchange : Meets Power.inExchange n X (withdrawWhere chosen why s) := by
    refine forList_reaches (P := H) (x := n) (fun m u hu => runH (withdrawTurn m u) hu) (fun u hu => ?_)
      (fun m u hu hx => runX (.inr rfl) (withdrawTurn m u) hu hx) allSites s hs (.inl (mem_allSites n))
    split
    · cases hp : (u.carrier n).power.inExchange with
      | true =>
        refine runX (.inr rfl) (withdraw_shifts_after n why u hp) (keepH _ _ (enterActive_shift n u (.inl hp)) hu) ?_
        exact meets_of_not_sleepward (.inr rfl) (by rw [carrier_enterActive_same]; rfl)
      | false =>
        rw [withdraw_of_not hp]
        intro h; rw [hp] at h; cases h
    · rename_i hn
      exact fun _ => skip u hu (by simpa using hn)
  have hmid : H (withdrawWhere chosen why s) := runH (withdrawWhere_shifts chosen why s) hs
  let P (u : State) : Prop := H u ∧ Meets Power.inExchange n X u
  have keepP {u v : State} (h : Shifts u v) (hu : P u) : P v := ⟨runH h hu.1, runX (.inr rfl) h hu.1 hu.2⟩
  refine forList_reaches (P := P) (x := n) (fun m u hu => keepP (wakeTurn m u) hu) (fun u hu => ?_)
    (fun m u hu hx => runX (.inl rfl) (wakeTurn m u) hu.1 hx) _ _ ⟨hmid, exchange⟩ ?_
  · split
    · by_cases hp : (u.carrier n).power = .asleep
      · have capacity := capacity_of_sleepward (carriers u hu.1) (n := n) (by simp [hp, Power.sleepward])
        refine runX (.inl rfl) (wakeCarrier_shifts_after n cls u hp capacity) (keepH _ _ (woken_shift n u hp) hu.1) ?_
        exact meets_of_not_sleepward (.inl rfl) (by rw [carrier_woken_same]; rfl)
      · rw [wakeCarrier_of_not hp]
        exact meets_sleepward_of hu.2 hp
    · rename_i hn
      exact fun _ => skip u hu.1 (by simpa using hn)
  · by_cases hp : ((withdrawWhere chosen why s).carrier n).power = .asleep
    · exact .inl (((carriers _ hmid).mem_stack n).2 hp)
    · exact .inr (meets_sleepward_of exchange hp)

end Sys2Proof.Machine
end

/-! # The changes of a step as deeds

A deed is a change together with what the model does about it at once; a run of deeds is what every command makes. After
each deed the scheduling laws hold again, though between a change and its consequences they may not. -/

section

namespace Sys2Proof.Machine

/-! ### Changes of more than one carrier -/

/-- Carriers and ports are as they were, as far as the scheduling laws look; night may have changed. -/
structure Unmoved (s u : State) : Prop where
  link : ∀ w, (u.port w).link = (s.port w).link
  slots : ∀ w, (u.port w).drainSlots = (s.port w).drainSlots
  standing : ∀ m, (u.carrier m).standing = (s.carrier m).standing
  queue : ∀ w, (u.port w).offerQueue = (s.port w).offerQueue

/-- Only the port of t and the periods and pins of its carriers have changed; its queue may have been shortened. -/
structure AtPort (t : Tenant) (s u : State) : Prop where
  night : night u = night s
  link : ∀ w, w ≠ t → (u.port w).link = (s.port w).link
  slots : ∀ w, w ≠ t → (u.port w).drainSlots = (s.port w).drainSlots
  queue : ∀ w, w ≠ t → (u.port w).offerQueue = (s.port w).offerQueue
  queued : ∀ m, m ∈ (u.port t).offerQueue → m ∈ (s.port t).offerQueue
  place : ∀ m, (u.carrier m).place = (s.carrier m).place
  power : ∀ m, (u.carrier m).power = (s.carrier m).power
  stale : ∀ m, (u.carrier m).stale = (s.carrier m).stale
  others : ∀ m, (s.carrier m).owner ≠ t → (u.carrier m).standing = (s.carrier m).standing

/-- A change with its immediate consequences. -/
inductive Deed (s : State) : State → Prop where
  | shift {t : State} (h : Shift s t) : Deed s t
  /-- An input of one carrier's own ripeness changes, and it is re-evaluated (R53). -/
  | reconsiders (n : Site) {u : State} (acts : Acts s u) (h : Change n s u)
      (anchor : (s.carrier n).role = .capacity ∨ (u.carrier n).anchorage = (s.carrier n).anchorage) :
      Deed s (reeval n u)
  /-- An anchor becomes ACTIVE, goes stale or is fresh again, and its dependents are re-evaluated (R53). -/
  | reanchors (n : Site) {u : State} (acts : Acts s u) (h : Change n s u) (role : (u.carrier n).role = .coverage)
      (active : (s.carrier n).power = .active → (u.carrier n).power = .active) : Deed s (reevalDependents n u)
  /-- An anchor leaves ACTIVE: its dependents are re-evaluated and restored (R53, R97). -/
  | departs (n : Site) {u : State} (acts : Acts s u) (h : Change n s u) (role : (u.carrier n).role = .coverage) :
      Deed s (restoration n (reevalDependents n u))
  /-- A tenant becomes LINKED, and its carriers are re-evaluated (R148). -/
  | links (t : Tenant) {u : State} (acts : Acts s u) (h : AtPort t s u) (linked : (u.port t).link = .linked)
      (slots : (u.port t).drainSlots = (s.port t).drainSlots) : Deed s (reevalOwned t u)
  /-- A tenant is LINKED no longer (R149). -/
  | silences (t : Tenant) (state : LinkState) (h : state ≠ .linked) : Deed s (enterSilent t state s)
  /-- A port that is not LINKED is written or cleared. -/
  | rests (t : Tenant) {u : State} (acts : Acts s u) (h : AtPort t s u) (link : (u.port t).link = (s.port t).link)
      (silent : (u.port t).link ≠ .linked) : Deed s u
  /-- Clock or lines change, and night is re-evaluated (R44). -/
  | renights (cause : NightEnd) {u : State} (acts : Acts s u) (h : Unmoved s u) :
      Deed s (renight (Machine.night s) cause u)
  | resets (addr : Nat) : Deed s (resetState addr s)

/-- A run of deeds. -/
abbrev Deeds : State → State → Prop := Relation.ReflTransGen Deed

theorem Deed.acts {s t : State} (h : Deed s t) : Acts s t := by
  cases h with
  | shift h => exact h.acts
  | reconsiders n acts _ _ => exact acts.trans (reeval_eases n _).acts
  | reanchors n acts _ _ _ => exact acts.trans (reevalDependents_eases n _).acts
  | departs n acts _ _ => exact (acts.trans (reevalDependents_eases n _).acts).trans (restoration_moves n _).acts
  | links t acts _ _ _ => exact acts.trans (reevalOwned_eases t _).acts
  | silences t state _ => exact enterSilent_acts t state s
  | rests t acts _ _ _ => exact acts
  | renights cause acts _ => exact acts.trans (renight_moves _ cause _).acts
  | resets addr => exact (Act.resets addr).run

/-- A property that every deed from a lawful state keeps is kept by a run of deeds. -/
theorem Deeds.keeps {P : State → Prop} (hP : ∀ u v, CarriersOk u → Deed u v → P u → P v) {s t : State}
    (h : Deeds s t) (hc : CarriersOk s) (hs : P s) : P t := by
  have both : CarriersOk t ∧ P t := by
    induction h with
    | refl => exact ⟨hc, hs⟩
    | tail _ m ih => exact ⟨m.acts.keeps_carriers ih.1, hP _ _ ih.1 m ih.2⟩
  exact both.2

/-- The same with the law of the anchor lists. -/
theorem Deeds.keeps_of_anchors {P : State → Prop} (hP : ∀ u v, CarriersOk u → AnchorsOk u → Deed u v → P u → P v)
    {s t : State} (h : Deeds s t) (hc : CarriersOk s) (ha : AnchorsOk s) (hs : P s) : P t :=
  (h.keeps (P := fun u => AnchorsOk u ∧ P u)
    (fun u v hu m k => ⟨m.acts.keeps_anchors k.1, hP u v hu k.1 m k.2⟩) hc ⟨ha, hs⟩).2

/-! ### A port and its carriers -/

theorem AtPort.trans {t : Tenant} {s u v : State} (h : AtPort t s u) (k : AtPort t u v) : AtPort t s v where
  night := k.night.trans h.night
  link w hw := (k.link w hw).trans (h.link w hw)
  slots w hw := (k.slots w hw).trans (h.slots w hw)
  queue w hw := (k.queue w hw).trans (h.queue w hw)
  queued m hm := h.queued m (k.queued m hm)
  place m := (k.place m).trans (h.place m)
  power m := (k.power m).trans (h.power m)
  stale m := (k.stale m).trans (h.stale m)
  others m hm := (k.others m (by rwa [place_owner (h.place m)])).trans (h.others m hm)

theorem atPort_modPort (t : Tenant) (f : Port → Port) (s : State)
    (hf : ∀ m, m ∈ (f (s.port t)).offerQueue → m ∈ (s.port t).offerQueue) : AtPort t s (s.modPort t f) where
  night := rfl
  link w hw := by rw [port_modPort_ne s f hw]
  slots w hw := by rw [port_modPort_ne s f hw]
  queue w hw := by rw [port_modPort_ne s f hw]
  queued m hm := by rw [port_modPort_same] at hm; exact hf m hm
  place _ := rfl
  power _ := rfl
  stale _ := rfl
  others _ _ := rfl

/-- A loop that writes only records. -/
theorem forList_records {α : Type} {R : Site → Carrier → Carrier → Prop} (refl : ∀ m c, R m c c)
    (trans : ∀ m c d e, R m c d → R m d e → R m c e) {f : α → State → State}
    (hf : ∀ x u, (f x u).clock = u.clock ∧ (f x u).inputs = u.inputs ∧ (f x u).ports = u.ports ∧
      ∀ m, R m (u.carrier m) ((f x u).carrier m)) (l : List α) (s : State) :
    (forList l f s).clock = s.clock ∧ (forList l f s).inputs = s.inputs ∧ (forList l f s).ports = s.ports ∧
      ∀ m, R m (s.carrier m) ((forList l f s).carrier m) := by
  refine forList_induction (fun v => v.clock = s.clock ∧ v.inputs = s.inputs ∧ v.ports = s.ports ∧
    ∀ m, R m (s.carrier m) (v.carrier m)) f (fun x u h => ?_) l s ⟨rfl, rfl, rfl, fun m => refl m _⟩
  obtain ⟨clock, inputs, ports, records⟩ := h
  obtain ⟨gclock, ginputs, gports, grecords⟩ := hf x u
  exact ⟨gclock.trans clock, ginputs.trans inputs, gports.trans ports,
    fun m => trans m _ _ _ (records m) (grecords m)⟩

theorem atPort_of_records {t : Tenant} {s u : State} (hc : u.clock = s.clock) (hi : u.inputs = s.inputs)
    (hp : u.ports = s.ports) (place : ∀ m, (u.carrier m).place = (s.carrier m).place)
    (power : ∀ m, (u.carrier m).power = (s.carrier m).power) (stale : ∀ m, (u.carrier m).stale = (s.carrier m).stale)
    (others : ∀ m, (s.carrier m).owner ≠ t → (u.carrier m).standing = (s.carrier m).standing) : AtPort t s u := by
  have port := port_of_ports hp
  exact ⟨night_of_parts hc hi, fun w _ => by rw [port], fun w _ => by rw [port], fun w _ => by rw [port],
    fun m hm => by rwa [port] at hm, place, power, stale, others⟩

/-- What a loop over the LINK pins of a tenant does to a record. -/
def LinkPinned (t : Tenant) (_ : Site) (c d : Carrier) : Prop :=
  (∃ p, d = { c with pins := p }) ∧ (c.owner ≠ t → d = c)

theorem setLinkPins_records (t : Tenant) (v : Bool) (which : Carrier → Bool) (s : State) :
    (setLinkPins t v which s).clock = s.clock ∧ (setLinkPins t v which s).inputs = s.inputs ∧
      (setLinkPins t v which s).ports = s.ports ∧
      ∀ m, LinkPinned t m (s.carrier m) ((setLinkPins t v which s).carrier m) := by
  refine forList_records (R := LinkPinned t) (fun _ c => ⟨⟨c.pins, rfl⟩, fun _ => rfl⟩) ?_ (fun n u => ?_) allSites s
  · rintro _ c _ _ ⟨⟨p, rfl⟩, hd⟩ ⟨⟨q, rfl⟩, he⟩
    exact ⟨⟨q, rfl⟩, fun hc => (he hc).trans (hd hc)⟩
  · split
    · rename_i h
      simp only [Bool.and_eq_true, beq_iff_eq] at h
      refine ⟨rfl, rfl, rfl, fun m => ?_⟩
      rw [carrier_modCarrier]
      split
      · rename_i hm
        subst hm
        exact ⟨⟨_, rfl⟩, fun hne => absurd h.1 hne⟩
      · exact ⟨⟨_, rfl⟩, fun _ => rfl⟩
    · exact ⟨rfl, rfl, rfl, fun m => ⟨⟨_, rfl⟩, fun _ => rfl⟩⟩

theorem atPort_setLinkPins (t : Tenant) (v : Bool) (which : Carrier → Bool) (s : State) :
    AtPort t s (setLinkPins t v which s) := by
  obtain ⟨clock, inputs, ports, records⟩ := setLinkPins_records t v which s
  refine atPort_of_records clock inputs ports (fun m => ?_) (fun m => ?_) (fun m => ?_) (fun m hm => ?_)
  all_goals obtain ⟨⟨p, hp⟩, same⟩ := records m
  · rw [hp]; rfl
  · rw [hp]
  · rw [hp]
  · rw [same hm]

theorem port_setLinkPins (t w : Tenant) (v : Bool) (which : Carrier → Bool) (s : State) :
    (setLinkPins t v which s).port w = s.port w := by
  obtain ⟨-, -, ports, -⟩ := setLinkPins_records t v which s
  exact port_of_ports ports w

/-- Emptying a queue clears ripe times, and nothing else of a record (R46, R149). -/
theorem emptyQueue_records (t : Tenant) (s : State) : (emptyQueue t s).clock = s.clock ∧
    (emptyQueue t s).inputs = s.inputs ∧
    (emptyQueue t s).ports = (s.modPort t fun p => { p with offerQueue := [] }).ports ∧
    ∀ m, ∃ r, (emptyQueue t s).carrier m = { s.carrier m with ripeTime := r } := by
  obtain ⟨clock, inputs, ports, records⟩ := forList_records
    (R := fun _ c d => ∃ r, d = { c with ripeTime := r }) (fun _ c => ⟨c.ripeTime, rfl⟩)
    (by rintro _ c _ _ ⟨_, rfl⟩ ⟨r, rfl⟩; exact ⟨r, rfl⟩)
    (f := fun n u => u.modCarrier n fun c => { c with ripeTime := none })
    (fun n u => ⟨rfl, rfl, rfl, fun m => by
      rw [carrier_modCarrier]
      split
      · exact ⟨none, rfl⟩
      · exact ⟨_, rfl⟩⟩) (s.port t).offerQueue s
  refine ⟨clock, inputs, ?_, records⟩
  rw [emptyQueue, State.modPort, State.modPort, ports]

theorem port_emptyQueue (t w : Tenant) (s : State) : (emptyQueue t s).port w =
    if w = t then { s.port w with offerQueue := [] } else s.port w := by
  obtain ⟨-, -, ports, -⟩ := emptyQueue_records t s
  rw [port_of_ports ports w, port_modPort]

theorem standing_emptyQueue (t : Tenant) (s : State) (m : Site) :
    ((emptyQueue t s).carrier m).standing = (s.carrier m).standing := by
  obtain ⟨-, -, -, records⟩ := emptyQueue_records t s
  obtain ⟨r, hr⟩ := records m
  rw [hr]; rfl

theorem atPort_emptyQueue (t : Tenant) (s : State) : AtPort t s (emptyQueue t s) := by
  obtain ⟨clock, inputs, -, -⟩ := emptyQueue_records t s
  have standing := standing_emptyQueue t s
  refine ⟨night_of_parts clock inputs, fun w hw => ?_, fun w hw => ?_, fun w hw => ?_, fun m hm => ?_,
    fun m => standing_place (standing m), fun m => standing_power (standing m), fun m => standing_stale (standing m),
    fun m _ => standing m⟩
  · rw [port_emptyQueue, if_neg hw]
  · rw [port_emptyQueue, if_neg hw]
  · rw [port_emptyQueue, if_neg hw]
  · rw [port_emptyQueue, if_pos rfl] at hm
    cases hm

/-- The state in which a tenant is LINKED no longer, its queue empty and its carriers pinned, before any is withdrawn or
woken (R149). -/
def silenced (t : Tenant) (state : LinkState) (s : State) : State :=
  setLinkPins t true (fun c => c.power != .offline)
    (emptyQueue t (s.modPort t fun p => { p with link := state, windowTimer := none }))

/-- A provisioned carrier of a tenant. -/
def ownedBy (t : Tenant) (s : State) (n : Site) : Bool := (s.carrier n).provisioned && (s.carrier n).owner == t

theorem enterSilent_eq (t : Tenant) (state : LinkState) (s : State) : enterSilent t state s =
    bulkWake (ownedBy t) .urgent (withdrawWhere (ownedBy t) .link (silenced t state s)) := rfl

theorem atPort_silenced (t : Tenant) (state : LinkState) (s : State) : AtPort t s (silenced t state s) :=
  ((atPort_modPort t _ s fun _ => id).trans (atPort_emptyQueue t _)).trans (atPort_setLinkPins t true _ _)

theorem port_silenced (t : Tenant) (state : LinkState) (s : State) : (silenced t state s).port t =
    { s.port t with link := state, windowTimer := none, offerQueue := [] } := by
  rw [silenced, port_setLinkPins, port_emptyQueue, if_pos rfl, port_modPort_same]

theorem silenced_hushed {t : Tenant} {state : LinkState} (s : State) (h : state ≠ .linked) :
    Hushed t (silenced t state s) where
  barred := .inl (by rw [port_silenced]; exact h)
  empty := by rw [port_silenced]

theorem silenced_acts (t : Tenant) (state : LinkState) (s : State) : Acts s (silenced t state s) := by
  refine ((port_acts t _ s fun _ => by rfl).trans (Moves.acts (Move.empties t).run)).trans
    (setLinkPins_acts t true _ _ fun c hc hp => ?_)
  simp [hp] at hc

theorem enterSilent_shifts (t : Tenant) (state : LinkState) (s : State) :
    Shifts (silenced t state s) (enterSilent t state s) := by
  rw [enterSilent_eq]
  exact (withdrawWhere_shifts _ _ _).trans (bulkWake_shifts _ _ _)

/-- The state in which night has ended and the queues are empty, before any carrier is withdrawn or woken (R46). -/
def dawned (s : State) : State := emptyQueue .c (emptyQueue .b (emptyQueue .a s))

theorem nightEnd_eq (cause : NightEnd) (s : State) : nightEnd cause s =
    bulkWake (fun _ _ => true) cause.cls (withdrawWhere (fun _ _ => true) cause.reason (dawned s)) := rfl

theorem dawned_acts (s : State) : Acts s (dawned s) :=
  Moves.acts (((Move.empties .a).run.trans (Move.empties .b).run).trans (Move.empties .c).run)

theorem nightEnd_shifts (cause : NightEnd) (s : State) : Shifts (dawned s) (nightEnd cause s) := by
  rw [nightEnd_eq]
  exact (withdrawWhere_shifts _ _ _).trans (bulkWake_shifts _ _ _)

theorem port_dawned (w : Tenant) (s : State) : (dawned s).port w = { s.port w with offerQueue := [] } := by
  rw [dawned, port_emptyQueue, port_emptyQueue, port_emptyQueue]
  cases w <;> rfl

theorem night_dawned (s : State) : Machine.night (dawned s) = Machine.night s := by
  rw [dawned, (atPort_emptyQueue .c _).night, (atPort_emptyQueue .b _).night, (atPort_emptyQueue .a _).night]

theorem standing_dawned (s : State) (m : Site) : ((dawned s).carrier m).standing = (s.carrier m).standing := by
  rw [dawned, standing_emptyQueue, standing_emptyQueue, standing_emptyQueue]

theorem dawned_hushed {s : State} (h : Machine.night s = false) (w : Tenant) : Hushed w (dawned s) where
  barred := .inr ((night_dawned s).trans h)
  empty := by rw [port_dawned]

/-! ### Tenants without offers and sleepers -/

/-- A tenant's queue is empty, and none of its carriers is OFFERED, DRAINING or ASLEEP. -/
structure Mute (u : Tenant) (s : State) : Prop where
  empty : (s.port u).offerQueue = []
  none : ∀ n, NoneIn Power.sleepward u n s

theorem slotsOk_iff {s : State} : SlotsOk s ↔
    ∀ u, outstanding s u ≤ (s.port u).drainSlots ∧ ((s.port u).link ≠ .linked → Mute u s) :=
  ⟨fun h u => ⟨(h u).1, fun hl => ⟨((h u).2 hl).1, ((h u).2 hl).2⟩⟩,
    fun h u => ⟨(h u).1, fun hl => ⟨((h u).2 hl).empty, ((h u).2 hl).none⟩⟩⟩

theorem nightOk_iff {s : State} : NightOk s ↔ (Machine.night s = false → ∀ u, Mute u s) :=
  ⟨fun h hn u => ⟨(h hn).1 u, fun n _ => (h hn).2 n⟩,
    fun h hn => ⟨fun u => (h hn u).empty, fun n => (h hn _).none n rfl⟩⟩

theorem Shift.keeps_mute {u : Tenant} {s t : State} (hc : CarriersOk s) (h : Shift s t) (hb : Barred u s)
    (hs : Mute u s) : Mute u t where
  empty := (h.keeps_hushed hc ⟨hb, hs.empty⟩).empty
  none n := h.keeps_noneIn (.inl rfl) hc ⟨hb, hs.empty⟩ (hs.none n)

theorem mute_of {u : Tenant} {s t : State} (hs : Mute u s)
    (queued : ∀ m, m ∈ (t.port u).offerQueue → m ∈ (s.port u).offerQueue)
    (calms : ∀ m, (t.carrier m).power.sleepward = true →
      (t.carrier m).owner = (s.carrier m).owner ∧ (s.carrier m).power.sleepward = true) : Mute u t where
  empty := List.eq_nil_iff_forall_not_mem.2 fun m hm => by
    have := queued m hm
    rw [hs.empty] at this
    cases this
  none n hn := Bool.eq_false_iff.2 fun hp => by
    obtain ⟨owner, before⟩ := calms n hp
    rw [hs.none n (owner.symm.trans hn)] at before
    cases before

theorem Change.keeps_mute {u : Tenant} {n : Site} {s t : State} (h : Change n s t) (hs : Mute u s) : Mute u t := by
  refine mute_of hs (h.queued u) fun m hp => ?_
  by_cases hm : m = n
  · subst hm
    exact ⟨place_owner (h.place (not_offline_of_sleepward hp)), h.calms.1 hp⟩
  · have same := h.others m hm
    exact ⟨place_owner (standing_place same), by rwa [← standing_power same]⟩

theorem AtPort.keeps_mute {t w : Tenant} {s u : State} (h : AtPort t s u) (hs : Mute w s) : Mute w u := by
  refine mute_of hs (fun m hm => ?_) fun m hp => ⟨place_owner (h.place m), by rwa [← h.power m]⟩
  by_cases hw : w = t
  · subst hw; exact h.queued m hm
  · rwa [h.queue w hw] at hm

theorem Unmoved.keeps_mute {w : Tenant} {s u : State} (h : Unmoved s u) (hs : Mute w s) : Mute w u :=
  mute_of hs (fun m hm => by rwa [h.queue w] at hm) fun m hp =>
    ⟨place_owner (standing_place (h.standing m)), by rwa [← standing_power (h.standing m)]⟩

theorem Mute.outstanding_eq_zero {u : Tenant} {s : State} (h : Mute u s) : outstanding s u = 0 := by
  rw [outstanding_eq, List.countP_eq_zero]
  intro n _ hn
  simp only [countsFor, Bool.and_eq_true, beq_iff_eq] at hn
  obtain ⟨⟨-, owner⟩, exchange⟩ := hn
  have none := h.none n owner
  rw [sleepward_of_inExchange exchange] at none
  cases none

/-- Withdrawals and wakes of a hushed tenant's carriers leave it mute (R46, R149). -/
theorem sweep_mutes {w : Tenant} {chosen : State → Site → Bool} (why : Reason) (cls : RampClass) {s : State}
    (hc : CarriersOk s) (hs : Hushed w s)
    (all : ∀ u n, (u.carrier n).provisioned = true → (u.carrier n).owner = w → chosen u n = true) :
    Mute w (bulkWake chosen cls (withdrawWhere chosen why s)) := by
  have shifts : Shifts s (bulkWake chosen cls (withdrawWhere chosen why s)) :=
    (withdrawWhere_shifts _ _ s).trans (bulkWake_shifts _ _ _)
  have hct := shifts.acts.keeps_carriers hc
  refine ⟨(shifts.keeps_of_carriers (fun u v hc h hu => h.keeps_hushed hc hu) hc hs).empty, fun n => ?_⟩
  let X (u : State) : Prop := ¬ ((u.carrier n).provisioned = true ∧ (u.carrier n).owner = w)
  have none_of_meets {group : Power → Bool} (hg : group = Power.sleepward ∨ group = Power.inExchange) {u : State}
      (hu : CarriersOk u) : Meets group n X u ↔ NoneIn group w n u := by
    refine ⟨fun h howner => Bool.eq_false_iff.2 fun hp => h hp ⟨provisioned_of_power hu ?_, howner⟩,
      fun h hp ⟨_, howner⟩ => ?_⟩
    · rcases hg with rfl | rfl
      · exact not_offline_of_sleepward hp
      · exact not_offline_of_sleepward (sleepward_of_inExchange hp)
    · rw [h howner] at hp; cases hp
  refine (none_of_meets (.inl rfl) hct).1 (sweep_meets (H := fun u => CarriersOk u ∧ Hushed w u) why cls
    (fun u hu => hu.1) (fun u v h hu => ⟨h.acts.keeps_carriers hu.1, h.keeps_hushed hu.1 hu.2⟩)
    (fun group hg u v h hu hx => ?_) (fun u _ hn ⟨hp, ho⟩ => ?_) ⟨hc, hs⟩)
  · rw [none_of_meets hg hu.1] at hx
    rw [none_of_meets hg (h.acts.keeps_carriers hu.1)]
    exact h.keeps_noneIn hg hu.1 hu.2 hx
  · rw [all u n hp ho] at hn; cases hn

theorem nightEnd_mute {cause : NightEnd} {s : State} (hc : CarriersOk s) (h : Machine.night s = false) (w : Tenant) :
    Mute w (nightEnd cause s) := by
  rw [nightEnd_eq]
  exact sweep_mutes _ _ ((dawned_acts s).keeps_carriers hc) (dawned_hushed h w) fun _ _ _ _ => rfl

theorem enterSilent_mute {t : Tenant} {state : LinkState} {s : State} (hc : CarriersOk s) (h : state ≠ .linked) :
    Mute t (enterSilent t state s) := by
  rw [enterSilent_eq]
  exact sweep_mutes _ _ ((silenced_acts t state s).keeps_carriers hc) (silenced_hushed s h)
    fun u n hp ho => by simp [ownedBy, hp, ho]

/-- What a re-evaluation of night can be. -/
theorem renight_cases (before : Bool) (cause : NightEnd) (s : State) :
    Machine.night s = before ∧ renight before cause s = s ∨
    (before = false ∧ Machine.night s = true ∧ renight before cause s = nightStart s) ∨
    (before = true ∧ Machine.night s = false ∧ renight before cause s = nightEnd cause s) := by
  rw [renight]
  cases before <;> cases Machine.night s <;> simp

/-! ### The law of the drain slots -/

theorem Shift.keeps_slotsOk {s t : State} (hc : CarriersOk s) (h : Shift s t) (hs : SlotsOk s) : SlotsOk t := by
  rw [slotsOk_iff] at hs ⊢
  intro u
  obtain ⟨slots, mute⟩ := hs u
  refine ⟨h.keeps_slots hc slots, fun hl => ?_⟩
  rw [(h.setting hc).link u] at hl
  exact h.keeps_mute hc (.inl hl) (mute hl)

theorem Shifts.keeps_slotsOk {s t : State} (h : Shifts s t) (hc : CarriersOk s) (hs : SlotsOk s) : SlotsOk t :=
  h.keeps_of_carriers (fun _ _ hc h hs => h.keeps_slotsOk hc hs) hc hs

theorem Change.keeps_slotsOk {n : Site} {s t : State} (h : Change n s t) (hs : SlotsOk s) : SlotsOk t := by
  rw [slotsOk_iff] at hs ⊢
  intro u
  obtain ⟨slots, mute⟩ := hs u
  rw [h.slots u, h.link u]
  exact ⟨(h.outstanding_le u).trans slots, fun hl => h.keeps_mute (mute hl)⟩

theorem AtPort.outstanding_le {t w : Tenant} {s u : State} (h : AtPort t s u) : outstanding u w ≤ outstanding s w :=
  Machine.outstanding_le fun m => countsFor_of_place (h.place m) fun hx => by rwa [← h.power m]

/-- What the law says of a tenant whose port has not changed. -/
theorem AtPort.slots_of_ne {t w : Tenant} {s u : State} (h : AtPort t s u) (hs : SlotsOk s) (hw : w ≠ t) :
    outstanding u w ≤ (u.port w).drainSlots ∧ ((u.port w).link ≠ .linked → Mute w u) := by
  obtain ⟨slots, mute⟩ := slotsOk_iff.1 hs w
  rw [h.slots w hw, h.link w hw]
  exact ⟨h.outstanding_le.trans slots, fun hl => h.keeps_mute (mute hl)⟩

theorem AtPort.keeps_slotsOk {t : Tenant} {s u : State} (h : AtPort t s u) (hs : SlotsOk s)
    (slots : (u.port t).drainSlots = (s.port t).drainSlots)
    (link : (u.port t).link = (s.port t).link ∨ (u.port t).link = .linked) : SlotsOk u := by
  refine slotsOk_iff.2 fun w => ?_
  by_cases hw : w = t
  · subst hw
    obtain ⟨le, mute⟩ := slotsOk_iff.1 hs w
    refine ⟨slots ▸ h.outstanding_le.trans le, fun hl => h.keeps_mute (mute ?_)⟩
    rcases link with link | link
    · rwa [← link]
    · exact absurd link hl
  · exact h.slots_of_ne hs hw

theorem emptyQueue_slotsOk (t : Tenant) {s : State} (hs : SlotsOk s) : SlotsOk (emptyQueue t s) := by
  refine (atPort_emptyQueue t s).keeps_slotsOk hs ?_ (.inl ?_) <;> rw [port_emptyQueue, if_pos rfl]

/-- A tenant that goes silent loses its offers and sleepers (R149); what its withdrawals and wakes set going reaches no
other tenant's slots. -/
theorem enterSilent_slotsOk {t : Tenant} {state : LinkState} {s : State} (hc : CarriersOk s) (h : state ≠ .linked)
    (hs : SlotsOk s) : SlotsOk (enterSilent t state s) := by
  have hcm := (silenced_acts t state s).keeps_carriers hc
  have mute := enterSilent_mute (t := t) hc h
  refine slotsOk_iff.2 fun w => ?_
  by_cases hw : w = t
  · subst hw
    exact ⟨mute.outstanding_eq_zero ▸ Nat.zero_le _, fun _ => mute⟩
  · refine (enterSilent_shifts t state s).keeps_of_carriers (P := fun u => outstanding u w ≤ (u.port w).drainSlots ∧
      ((u.port w).link ≠ .linked → Mute w u)) (fun u v hu m ⟨slots, mute⟩ => ?_) hcm
      ((atPort_silenced t state s).slots_of_ne hs hw)
    refine ⟨m.keeps_slots hu slots, fun hl => ?_⟩
    rw [(m.setting hu).link w] at hl
    exact m.keeps_mute hu (.inl hl) (mute hl)

theorem Unmoved.keeps_slotsOk {s u : State} (h : Unmoved s u) (hs : SlotsOk s) : SlotsOk u := by
  refine slotsOk_iff.2 fun w => ?_
  obtain ⟨slots, mute⟩ := slotsOk_iff.1 hs w
  rw [h.slots, h.link]
  exact ⟨(outstanding_le fun m => countsFor_of_standing (h.standing m)).trans slots, fun hl => h.keeps_mute (mute hl)⟩

/-- A reset state has no carriers in service and empty queues. -/
theorem resetState_mute (addr : Nat) (s : State) (w : Tenant) : Mute w (resetState addr s) where
  empty := by
    obtain ⟨level, h⟩ := resetState_port addr s w
    rw [h]; rfl
  none n _ := by rw [resetState_carrier]; rfl

theorem Deed.keeps_slotsOk {s t : State} (hc : CarriersOk s) (h : Deed s t) (hs : SlotsOk s) : SlotsOk t := by
  cases h with
  | shift h => exact h.keeps_slotsOk hc hs
  | reconsiders n acts h _ => exact (reeval_shifts n _).keeps_slotsOk (acts.keeps_carriers hc) (h.keeps_slotsOk hs)
  | reanchors n acts h _ _ =>
    exact (reevalDependents_shifts n _).keeps_slotsOk (acts.keeps_carriers hc) (h.keeps_slotsOk hs)
  | departs n acts h _ =>
    exact (depart_shifts n _).keeps_slotsOk (acts.keeps_carriers hc)
      (h.keeps_slotsOk hs)
  | links t acts h linked slots =>
    exact (reevalWhere_shifts _ _).keeps_slotsOk (acts.keeps_carriers hc) (h.keeps_slotsOk hs slots (.inr linked))
  | silences t state h => exact enterSilent_slotsOk hc h hs
  | rests w acts h link silent =>
    refine slotsOk_iff.2 fun v => ?_
    by_cases hv : v = w
    · subst hv
      have mute := h.keeps_mute (((slotsOk_iff.1 hs) v).2 (link ▸ silent))
      exact ⟨mute.outstanding_eq_zero ▸ Nat.zero_le _, fun _ => mute⟩
    · exact h.slots_of_ne hs hv
  | @renights cause u acts h =>
    have hcu := acts.keeps_carriers hc
    have hu := h.keeps_slotsOk hs
    rcases renight_cases (Machine.night s) cause u with ⟨-, hr⟩ | ⟨-, -, hr⟩ | ⟨-, -, hr⟩ <;> rw [hr]
    · exact hu
    · exact (reevalWhere_shifts _ _).keeps_slotsOk hcu hu
    · exact (nightEnd_shifts cause u).keeps_slotsOk ((dawned_acts u).keeps_carriers hcu)
        (emptyQueue_slotsOk _ (emptyQueue_slotsOk _ (emptyQueue_slotsOk _ hu)))
  | resets addr =>
    have mute := resetState_mute addr s
    exact slotsOk_iff.2 fun u => ⟨(mute u).outstanding_eq_zero ▸ Nat.zero_le _, fun _ => mute u⟩

/-! ### The law of night -/

theorem Shift.keeps_nightOk {s t : State} (hc : CarriersOk s) (h : Shift s t) (hs : NightOk s) : NightOk t := by
  rw [nightOk_iff] at hs ⊢
  intro hn u
  rw [(h.setting hc).night] at hn
  exact h.keeps_mute hc (.inr hn) (hs hn u)

theorem Shifts.keeps_nightOk {s t : State} (h : Shifts s t) (hc : CarriersOk s) (hs : NightOk s) : NightOk t :=
  h.keeps_of_carriers (fun _ _ hc h hs => h.keeps_nightOk hc hs) hc hs

theorem Change.keeps_nightOk {n : Site} {s t : State} (h : Change n s t) (hs : NightOk s) : NightOk t := by
  rw [nightOk_iff] at hs ⊢
  rw [h.night]
  exact fun hn u => h.keeps_mute (hs hn u)

theorem AtPort.keeps_nightOk {t : Tenant} {s u : State} (h : AtPort t s u) (hs : NightOk s) : NightOk u := by
  rw [nightOk_iff] at hs ⊢
  rw [h.night]
  exact fun hn w => h.keeps_mute (hs hn w)

theorem Deed.keeps_nightOk {s t : State} (hc : CarriersOk s) (h : Deed s t) (hs : NightOk s) : NightOk t := by
  cases h with
  | shift h => exact h.keeps_nightOk hc hs
  | reconsiders n acts h _ => exact (reeval_shifts n _).keeps_nightOk (acts.keeps_carriers hc) (h.keeps_nightOk hs)
  | reanchors n acts h _ _ =>
    exact (reevalDependents_shifts n _).keeps_nightOk (acts.keeps_carriers hc) (h.keeps_nightOk hs)
  | departs n acts h _ =>
    exact (depart_shifts n _).keeps_nightOk (acts.keeps_carriers hc)
      (h.keeps_nightOk hs)
  | links t acts h _ _ => exact (reevalWhere_shifts _ _).keeps_nightOk (acts.keeps_carriers hc) (h.keeps_nightOk hs)
  | silences t state _ =>
    exact (enterSilent_shifts t state s).keeps_nightOk ((silenced_acts t state s).keeps_carriers hc)
      ((atPort_silenced t state s).keeps_nightOk hs)
  | rests w acts h _ _ => exact h.keeps_nightOk hs
  | @renights cause u acts h =>
    have hcu := acts.keeps_carriers hc
    refine nightOk_iff.2 fun hn w => ?_
    rw [(renight_moves _ cause u).cascade.night] at hn
    rcases renight_cases (Machine.night s) cause u with ⟨same, hr⟩ | ⟨-, dark, -⟩ | ⟨-, -, hr⟩
    · rw [hr]
      exact h.keeps_mute (nightOk_iff.1 hs (same ▸ hn) w)
    · rw [dark] at hn; cases hn
    · rw [hr]
      exact nightEnd_mute hcu hn w
  | resets addr => exact nightOk_iff.2 fun _ => resetState_mute addr s

/-! ### The law of coverage -/

/-- Nothing that anchors are worth has changed, and no queue has grown. -/
theorem coverageOk_of_steady {s u : State} (place : ∀ m, (u.carrier m).place = (s.carrier m).place)
    (power : ∀ m, (u.carrier m).power = (s.carrier m).power) (stale : ∀ m, (u.carrier m).stale = (s.carrier m).stale)
    (queued : ∀ w m, m ∈ (u.port w).offerQueue → m ∈ (s.port w).offerQueue) (hs : CoverageOk s) : CoverageOk u := by
  have worth (m : Site) := anchors_congr (place_anchors (place m)) fun x _ =>
    show (u.carrier x).anchorage = (s.carrier x).anchorage by rw [Carrier.anchorage, Carrier.anchorage, power, stale]
  refine ⟨fun n hn => ?_, fun w n hn => ?_⟩
  · rw [power] at hn
    rw [(worth n).1]
    exact hs.1 n hn
  · rw [(worth n).2]
    exact hs.2 w n (queued w n hn)

theorem AtPort.keeps_coverageOk {t : Tenant} {s u : State} (h : AtPort t s u) (hs : CoverageOk s) : CoverageOk u := by
  refine coverageOk_of_steady h.place h.power h.stale (fun w m hm => ?_) hs
  by_cases hw : w = t
  · subst hw; exact h.queued m hm
  · rwa [h.queue w hw] at hm

theorem Unmoved.keeps_coverageOk {s u : State} (h : Unmoved s u) (hs : CoverageOk s) : CoverageOk u :=
  coverageOk_of_steady (fun m => standing_place (h.standing m)) (fun m => standing_power (h.standing m))
    (fun m => standing_stale (h.standing m)) (fun w m hm => by rwa [h.queue w] at hm) hs

theorem Shift.keeps_coverageOk {s t : State} (hc : CarriersOk s) (ha : AnchorsOk s) (h : Shift s t)
    (hs : CoverageOk s) : CoverageOk t := by
  rw [coverageOk_iff] at hs ⊢
  obtain ⟨covered, fit⟩ := hs
  exact ⟨fun n => h.keeps_coveredAt (.inl rfl) hc ha (fit n).active_of_fit (covered n),
    fun n => h.keeps_queuedMeets (.inr rfl) hc ha (fit n)⟩

theorem Shifts.keeps_coverageOk {s t : State} (h : Shifts s t) (hc : CarriersOk s) (ha : AnchorsOk s)
    (hs : CoverageOk s) : CoverageOk t :=
  h.keeps (fun _ _ hc ha h hs => h.keeps_coverageOk hc ha hs) hc ha hs

/-- What the anchors of m are worth after carrier n has changed, where n is no anchor of m or is worth the same. -/
theorem Change.worth {n m : Site} {s t : State} (h : Change n s t) (hm : (t.carrier m).place = (s.carrier m).place)
    (safe : n ∈ (s.carrier m).anchors → (t.carrier n).anchorage = (s.carrier n).anchorage) :
    someAnchorActive t m = someAnchorActive s m ∧ someAnchorFit t m = someAnchorFit s m := by
  refine anchors_congr (place_anchors hm) fun x hx => ?_
  by_cases hn : x = n
  · subst hn; exact safe hx
  · exact standing_anchorage (h.others x hn)

/-- A CAPACITY carrier is nobody's anchor (R2). -/
theorem not_anchor_of_capacity {s : State} (ha : AnchorsOk s) {m n : Site} (hp : (s.carrier m).provisioned = true)
    (hn : (s.carrier n).role = .capacity) : n ∉ (s.carrier m).anchors := by
  intro hx
  obtain ⟨-, -, -, -, anchors⟩ := ha m hp
  obtain ⟨-, -, coverage, -⟩ := anchors n hx
  rw [hn] at coverage; cases coverage

theorem Change.place_of_power {n m : Site} {s t : State} (h : Change n s t) (hp : (t.carrier m).power ≠ .offline) :
    (t.carrier m).place = (s.carrier m).place := by
  by_cases hm : m = n
  · subst hm; exact h.place hp
  · exact standing_place (h.others m hm)

theorem Change.calms_all {n : Site} {s t : State} (h : Change n s t) (m : Site) :
    (s.carrier m).power.Calms (t.carrier m).power := by
  by_cases hm : m = n
  · subst hm; exact h.calms
  · rw [standing_power (h.others m hm)]; exact .same _

/-- A queued carrier is where it was before a change. -/
theorem Change.queued_place {n m : Site} {u : Tenant} {s t : State} (h : Change n s t) (hc : CarriersOk s)
    (ht : CarriersOk t) (hm : m ∈ (t.port u).offerQueue) :
    m ∈ (s.port u).offerQueue ∧ (s.carrier m).provisioned = true ∧ (t.carrier m).place = (s.carrier m).place := by
  obtain ⟨-, -, -, active⟩ := ht.of_queued hm
  have queued := h.queued u m hm
  exact ⟨queued, (hc.of_queued queued).1, h.place_of_power (by rw [active]; exact nofun)⟩

/-- A carrier in an exchange or asleep after a change was so before. -/
theorem Change.sleepward_place {n m : Site} {s t : State} (h : Change n s t) (ht : CarriersOk t)
    (hm : (t.carrier m).power.sleepward = true) :
    (s.carrier m).power.sleepward = true ∧ (s.carrier m).provisioned = true ∧
      (t.carrier m).place = (s.carrier m).place := by
  have place := h.place_of_power (not_offline_of_sleepward hm)
  refine ⟨(h.calms_all m).1 hm, ?_, place⟩
  rw [← place_provisioned place]
  exact provisioned_of_power ht (not_offline_of_sleepward hm)

theorem Change.keeps_coverageOk {n : Site} {s t : State} (hc : CarriersOk s) (ha : AnchorsOk s) (ht : CarriersOk t)
    (h : Change n s t)
    (anchor : (s.carrier n).role = .capacity ∨ (t.carrier n).anchorage = (s.carrier n).anchorage)
    (hs : CoverageOk s) : CoverageOk t := by
  have worth {m : Site} (hp : (s.carrier m).provisioned = true) (hm : (t.carrier m).place = (s.carrier m).place) :=
    h.worth hm fun hx => anchor.resolve_left fun hcap => not_anchor_of_capacity ha hp hcap hx
  refine ⟨fun m hm => ?_, fun u m hm => ?_⟩
  · obtain ⟨before, provisioned, place⟩ := h.sleepward_place ht hm
    rw [(worth provisioned place).1]
    exact hs.1 m before
  · obtain ⟨queued, provisioned, place⟩ := h.queued_place hc ht hm
    rw [(worth provisioned place).2]
    exact hs.2 u m queued

theorem dependent_iff (s : State) (x n : Site) : dependent s x n = true ↔
    (s.carrier n).provisioned = true ∧ (s.carrier n).role = .capacity ∧ x ∈ (s.carrier n).anchors := by
  simp [dependent, and_assoc]

theorem dependent_of_place {s t : State} {x n : Site} (h : (t.carrier n).place = (s.carrier n).place) :
    dependent t x n = dependent s x n := by
  rw [dependent, dependent, place_provisioned h, place_role h, place_anchors h]

/-! ### What a loop of re-evaluations makes right -/

/-- Whatever a carrier was, after its re-evaluation it is queued exactly when it is ripe (R53). -/
theorem reeval_ripeAt {s : State} (hc : CarriersOk s) (ha : AnchorsOk s) (n : Site) : RipeAt n (reeval n s) := by
  rcases reeval_cases n s with ⟨hr, h⟩ | ⟨hr, hq, h⟩ | ⟨hr, hq, h⟩ <;> rw [h]
  · exact ripeAt_of_out (ripe_unqueue n s hr) (unqueued_unqueue n hc.2.1)
  · intro u
    simp only [hr, and_true]
    refine ⟨fun hn => ?_, fun ho => ho ▸ hq⟩
    obtain ⟨-, owner, -⟩ := hc.of_queued hn
    exact owner
  · have joins : Shift s (joinQueue n s) := .joins n hr hq
    have standing : ((joinQueue n s).carrier n).standing = (s.carrier n).standing := by
      rw [carrier_joinQueue, if_pos rfl]; rfl
    have joined : RipeAt n (joinQueue n s) := fun u => by
      rw [mem_joinQueue_iff hc, joins.keeps_ripe hc ha standing, place_owner (standing_place standing), hr]
      simp
    exact (dispatch_shifts _ _).keeps (fun _ _ hc ha h hs => h.keeps_ripeAt hc ha hs) (joins.acts.keeps_carriers hc)
      (joins.acts.keeps_anchors ha) joined

/-- A loop of re-evaluations leaves every site right that it chooses or that was right. -/
theorem reevalWhere_ripeAt {chosen : State → Site → Bool} (same : ∀ u v, Cascade u v → chosen v = chosen u) {s : State}
    (hc : CarriersOk s) (ha : AnchorsOk s) {n : Site} (h : chosen s n = true ∨ RipeAt n s) :
    RipeAt n (reevalWhere chosen s) := by
  let turn (m : Site) (u : State) : State := if chosen u m then reeval m u else u
  have eases (m : Site) (u : State) : Eases u (turn m u) := by
    dsimp only [turn]
    split
    · exact reeval_eases m u
    · exact .refl
  have shifts (m : Site) (u : State) : Shifts u (turn m u) := by
    dsimp only [turn]
    split
    · exact reeval_shifts m u
    · exact .refl
  let P (u : State) : Prop := CarriersOk u ∧ AnchorsOk u ∧ chosen u n = chosen s n
  have keepP (m : Site) (u : State) (hu : P u) : P (turn m u) :=
    ⟨(eases m u).acts.keeps_carriers hu.1, (eases m u).acts.keeps_anchors hu.2.1,
      by rw [same u _ (eases m u).moves.cascade]; exact hu.2.2⟩
  have keepQ (m : Site) (u : State) (hu : P u) (hq : RipeAt n u) : RipeAt n (turn m u) :=
    (shifts m u).keeps (fun _ _ hc ha h hs => h.keeps_ripeAt hc ha hs) hu.1 hu.2.1 hq
  rcases h with h | h
  · refine forList_reaches (x := n) keepP (fun u hu => ?_) keepQ allSites s ⟨hc, ha, rfl⟩ (.inl (mem_allSites n))
    dsimp only [turn]
    rw [if_pos (hu.2.2.trans h)]
    exact reeval_ripeAt hu.1 hu.2.1 n
  · exact (reevalWhere_shifts chosen s).keeps (fun _ _ hc ha h hs => h.keeps_ripeAt hc ha hs) hc ha h

theorem RipeAt.fit {n : Site} {s : State} (h : RipeAt n s) : FitAt n s :=
  fun u hn => (ripe_conditions ((h u).1 hn).2).2.2

theorem reevalDependents_ripeAt {s : State} (hc : CarriersOk s) (ha : AnchorsOk s) {x n : Site}
    (h : dependent s x n = true ∨ RipeAt n s) : RipeAt n (reevalDependents x s) :=
  reevalWhere_ripeAt (chosen := fun u m => dependent u x m) (fun _ _ k => funext fun m => k.dependent x m) hc ha h

/-- Queued sites other than the dependents of x keep their fit anchors while those are re-evaluated; the dependents are
right afterwards. -/
theorem reevalDependents_fitAt {s : State} (hc : CarriersOk s) (ha : AnchorsOk s) {x n : Site}
    (h : dependent s x n = true ∨ FitAt n s) : FitAt n (reevalDependents x s) := by
  rcases h with h | h
  · exact (reevalDependents_ripeAt hc ha (.inl h)).fit
  · exact (reevalDependents_shifts x s).keeps (fun _ _ hc ha h hs => h.keeps_queuedMeets (.inr rfl) hc ha hs) hc ha h

theorem Shifts.keeps_coveredAt {s t : State} (h : Shifts s t) (hc : CarriersOk s) (ha : AnchorsOk s) {n : Site}
    (hf : QueuedMeets someAnchorActive n s) (hs : CoveredAt Power.sleepward n s) :
    CoveredAt Power.sleepward n t :=
  (h.keeps (P := fun u => QueuedMeets someAnchorActive n u ∧ CoveredAt Power.sleepward n u)
    (fun _ _ hc ha h hs => ⟨h.keeps_queuedMeets (.inl rfl) hc ha hs.1, h.keeps_coveredAt (.inl rfl) hc ha hs.1 hs.2⟩)
    hc ha ⟨hf, hs⟩).2

/-- An ACTIVE anchor stays one, where carrier n does not leave ACTIVE. -/
theorem Change.keeps_active_anchor {n m : Site} {s t : State} (h : Change n s t)
    (hm : (t.carrier m).place = (s.carrier m).place)
    (active : n ∈ (s.carrier m).anchors → (s.carrier n).power = .active → (t.carrier n).power = .active)
    (hs : someAnchorActive s m = true) : someAnchorActive t m = true := by
  simp only [someAnchorActive, List.any_eq_true, beq_iff_eq] at hs ⊢
  obtain ⟨x, hx, hp⟩ := hs
  refine ⟨x, by rwa [place_anchors hm], ?_⟩
  by_cases hn : x = n
  · subst hn; exact active hx hp
  · rw [standing_power (h.others x hn)]; exact hp

/-- A queued carrier that is no dependent of the changed anchor keeps its fit anchor. -/
theorem Change.fitAt {n m : Site} {s t : State} (h : Change n s t) (hc : CarriersOk s) (ht : CarriersOk t)
    (hd : dependent t n m = false) (hs : FitAt m s) : FitAt m t := by
  intro u hm
  obtain ⟨queued, -, place⟩ := h.queued_place hc ht hm
  obtain ⟨provisioned, -, capacity, -⟩ := ht.of_queued hm
  rw [(h.worth place fun hx => ?_).2]
  · exact hs u queued
  · rw [(dependent_iff t n m).2 ⟨provisioned, capacity, by rwa [place_anchors place]⟩] at hd
    cases hd

theorem Change.coverageOk_of_reanchors {n : Site} {s u : State} (hc : CarriersOk s) (hcu : CarriersOk u)
    (hau : AnchorsOk u) (h : Change n s u)
    (active : (s.carrier n).power = .active → (u.carrier n).power = .active) (hs : CoverageOk s) :
    CoverageOk (reevalDependents n u) := by
  rw [coverageOk_iff] at hs ⊢
  obtain ⟨covered, fit⟩ := hs
  refine ⟨fun m => ?_, fun m => reevalDependents_fitAt hcu hau ?_⟩
  · refine (reevalDependents_shifts n u).keeps_coveredAt hcu hau (fun w hm => ?_) fun hm => ?_
    · obtain ⟨queued, -, place⟩ := h.queued_place hc hcu hm
      exact h.keeps_active_anchor place (fun _ => active) (someAnchorActive_of_fit (fit m w queued))
    · obtain ⟨before, -, place⟩ := h.sleepward_place hcu hm
      exact h.keeps_active_anchor place (fun _ => active) (covered m before)
  · cases hd : dependent u n m with
    | true => exact .inl rfl
    | false => exact .inr (h.fitAt hc hcu hd (fit m))

/-- Restoration leaves no dependent of x in an exchange or asleep without an ACTIVE anchor (R97). -/
theorem restoration_covered {s : State} (hc : CarriersOk s) (ha : AnchorsOk s) {x n : Site} (hf : FitAt n s)
    (hd : dependent s x n = true) : CoveredAt Power.sleepward n (restoration x s) := by
  rw [restoration_eq_where]
  let H (u : State) : Prop := CarriersOk u ∧ AnchorsOk u ∧ FitAt n u
  let X (u : State) : Prop := dependent u x n = true → someAnchorActive u n = true
  have keepH (u v : State) (h : Shift u v) (hu : H u) : H v :=
    ⟨h.acts.keeps_carriers hu.1, h.acts.keeps_anchors hu.2.1, h.keeps_queuedMeets (.inr rfl) hu.1 hu.2.1 hu.2.2⟩
  have meets : Meets Power.sleepward n X _ := sweep_meets (H := H) (X := X) (n := n) (chosen := restorable x) .coverage
    .urgent (fun u hu => hu.1) keepH (fun group hg u v h hu hx hp => ?_) (fun u _ hn hd => ?_) ⟨hc, ha, hf⟩
  · have cascade : Cascade s (bulkWake (restorable x) .urgent (withdrawWhere (restorable x) .coverage s)) :=
      (restoration_moves x s).cascade
    exact fun hp => meets hp (by rw [cascade.dependent]; exact hd)
  · intro hdv
    have sleepward : (v.carrier n).power.sleepward = true := by
      rcases hg with rfl | rfl
      · exact hp
      · exact sleepward_of_inExchange hp
    refine h.keeps_coveredAt hg hu.1 hu.2.1 hu.2.2.active_of_fit (fun hpu => hx hpu ?_) hp
    rwa [dependent_of_place ((h.placed hu.1 n).place (not_offline_of_sleepward sleepward))] at hdv
  · simpa [restorable, hd] using hn

theorem Change.coverageOk_of_departs {n : Site} {s u : State} (hc : CarriersOk s) (hcu : CarriersOk u)
    (hau : AnchorsOk u) (h : Change n s u) (hs : CoverageOk s) :
    CoverageOk (restoration n (reevalDependents n u)) := by
  rw [coverageOk_iff] at hs ⊢
  obtain ⟨covered, fit⟩ := hs
  let v := reevalDependents n u
  have moves : Moves u v := (reevalDependents_eases n u).moves
  have hcv : CarriersOk v := moves.acts.keeps_carriers hcu
  have hav : AnchorsOk v := moves.acts.keeps_anchors hau
  have fitv (m : Site) : FitAt m v := reevalDependents_fitAt hcu hau (by
    cases hd : dependent u n m with
    | true => exact .inl rfl
    | false => exact .inr (h.fitAt hc hcu hd (fit m)))
  refine ⟨fun m => ?_, fun m => (restoration_shifts n v).keeps
    (fun _ _ hc ha h hs => h.keeps_queuedMeets (.inr rfl) hc ha hs) hcv hav (fitv m)⟩
  cases hd : dependent u n m with
  | true => exact restoration_covered hcv hav (fitv m) ((moves.cascade.dependent n m).trans hd)
  | false =>
    refine (depart_shifts n u).keeps_coveredAt hcu hau
      (h.fitAt hc hcu hd (fit m)).active_of_fit fun hm => ?_
    obtain ⟨before, provisioned, place⟩ := h.sleepward_place hcu hm
    refine h.keeps_active_anchor place (fun hx => absurd ((dependent_iff u n m).2 ?_) (by simp [hd])) (covered m before)
    rw [place_provisioned place, place_anchors place]
    exact ⟨provisioned, capacity_of_sleepward hcu hm, hx⟩

theorem Deed.keeps_coverageOk {s t : State} (hc : CarriersOk s) (ha : AnchorsOk s) (h : Deed s t) (hs : CoverageOk s) :
    CoverageOk t := by
  cases h with
  | shift h => exact h.keeps_coverageOk hc ha hs
  | reconsiders n acts h anchor =>
    have hcu := acts.keeps_carriers hc
    exact (reeval_shifts n _).keeps_coverageOk hcu (acts.keeps_anchors ha) (h.keeps_coverageOk hc ha hcu anchor hs)
  | reanchors n acts h _ active =>
    exact h.coverageOk_of_reanchors hc (acts.keeps_carriers hc) (acts.keeps_anchors ha) active hs
  | departs n acts h _ => exact h.coverageOk_of_departs hc (acts.keeps_carriers hc) (acts.keeps_anchors ha) hs
  | links t acts h _ _ =>
    exact (reevalWhere_shifts _ _).keeps_coverageOk (acts.keeps_carriers hc) (acts.keeps_anchors ha)
      (h.keeps_coverageOk hs)
  | silences t state _ =>
    have acts := silenced_acts t state s
    exact (enterSilent_shifts t state s).keeps_coverageOk (acts.keeps_carriers hc) (acts.keeps_anchors ha)
      ((atPort_silenced t state s).keeps_coverageOk hs)
  | rests w acts h _ _ => exact h.keeps_coverageOk hs
  | @renights cause u acts h =>
    have hcu := acts.keeps_carriers hc
    have hau := acts.keeps_anchors ha
    have hu := h.keeps_coverageOk hs
    rcases renight_cases (Machine.night s) cause u with ⟨-, hr⟩ | ⟨-, -, hr⟩ | ⟨-, -, hr⟩ <;> rw [hr]
    · exact hu
    · exact (reevalWhere_shifts _ _).keeps_coverageOk hcu hau hu
    · have empties (t : Tenant) {v : State} (hv : CoverageOk v) : CoverageOk (emptyQueue t v) :=
        (atPort_emptyQueue t v).keeps_coverageOk hv
      exact (nightEnd_shifts cause u).keeps_coverageOk ((dawned_acts u).keeps_carriers hcu)
        ((dawned_acts u).keeps_anchors hau) (empties .c (empties .b (empties .a hu)))
  | resets addr =>
    have mute := resetState_mute addr s
    refine ⟨fun n hn => ?_, fun u n hn => ?_⟩
    · rw [(mute _).none n rfl] at hn; cases hn
    · rw [(mute u).empty] at hn; cases hn

/-! ### The law of ripeness -/

theorem Shifts.keeps_ripeOk {s t : State} (h : Shifts s t) (hc : CarriersOk s) (ha : AnchorsOk s) (hs : RipeOk s) :
    RipeOk t :=
  ripeOk_iff.2 fun n => h.keeps (fun _ _ hc ha h hs => h.keeps_ripeAt hc ha hs) hc ha (ripeOk_iff.1 hs n)

/-- A carrier that R52 shuts out whatever its timers do is right whenever the queues are in order. -/
theorem ripeAt_of_role {s : State} (hc : CarriersOk s) {n : Site}
    (h : ¬ ((s.carrier n).provisioned = true ∧ (s.carrier n).role = .capacity)) : RipeAt n s := by
  refine ripeAt_of_out (Bool.eq_false_iff.2 fun hr => ?_) fun u hn => ?_
  · obtain ⟨provisioned, capacity, -⟩ := ripe_needs hr
    exact h ⟨provisioned, capacity⟩
  · obtain ⟨provisioned, -, capacity, -⟩ := hc.of_queued hn
    exact h ⟨provisioned, capacity⟩

/-- Another carrier than the changed one, and no dependent of it, is as right as it was. -/
theorem Change.ripeAt {n m : Site} {s t : State} (hct : CarriersOk t) (h : Change n s t) (hm : m ≠ n)
    (safe : dependent t n m = true → (t.carrier n).anchorage = (s.carrier n).anchorage) (hs : RipeAt m s) :
    RipeAt m t := by
  have same := h.others m hm
  by_cases hrole : (t.carrier m).provisioned = true ∧ (t.carrier m).role = .capacity
  · have hripe : ripe t m = ripe s m := by
      refine ripe_congr h.night (h.link _) same (h.worth (standing_place same) fun hx => safe ?_).2
      exact (dependent_iff t n m).2 ⟨hrole.1, hrole.2, by rwa [place_anchors (standing_place same)]⟩
    intro u
    rw [hripe, place_owner (standing_place same), ← hs u]
    exact ⟨h.queued u m, h.stays u m hm⟩
  · exact ripeAt_of_role hct hrole

/-- After an anchor has changed and its dependents have been re-evaluated every carrier is right. -/
theorem Change.ripeOk_of_reanchors {n : Site} {s u : State} (hcu : CarriersOk u) (hau : AnchorsOk u) (h : Change n s u)
    (role : (u.carrier n).role = .coverage) (hs : RipeOk s) : RipeOk (reevalDependents n u) := by
  refine ripeOk_iff.2 fun m => reevalDependents_ripeAt hcu hau ?_
  cases hd : dependent u n m with
  | true => exact .inl rfl
  | false =>
    refine .inr ?_
    by_cases hm : m = n
    · subst hm
      exact ripeAt_of_role hcu fun ⟨_, capacity⟩ => by rw [role] at capacity; cases capacity
    · exact h.ripeAt hcu hm (fun hd' => by rw [hd] at hd'; cases hd') (ripeOk_iff.1 hs m)

/-- A carrier of another tenant is as right as it was. -/
theorem AtPort.ripeAt {t : Tenant} {s u : State} (h : AtPort t s u) (hcu : CarriersOk u) {m : Site}
    (hm : (s.carrier m).owner ≠ t) (hs : RipeAt m s) : RipeAt m u := by
  have same := h.others m hm
  have hripe : ripe u m = ripe s m := ripe_congr h.night (h.link _ hm) same
    (anchors_congr (place_anchors (h.place m)) fun x _ => by
      rw [Carrier.anchorage, Carrier.anchorage, h.power, h.stale]).2
  intro w
  rw [hripe, place_owner (h.place m)]
  by_cases hw : w = t
  · subst hw
    refine ⟨fun hq => ?_, fun ho => absurd ho.1 hm⟩
    obtain ⟨-, owner, -⟩ := hcu.of_queued hq
    exact absurd ((place_owner (h.place m)).symm.trans owner) hm
  · rw [h.queue w hw]
    exact hs w

/-- A tenant that is not LINKED, with an empty queue, has every carrier right. -/
theorem Hushed.ripeAt {t : Tenant} {s : State} (h : Hushed t s) (hc : CarriersOk s) {m : Site}
    (hm : (s.carrier m).owner = t) : RipeAt m s := by
  refine ripeAt_of_out (h.barred.not_ripe hm) fun u hn => ?_
  obtain ⟨-, owner, -⟩ := hc.of_queued hn
  rw [← owner, hm, h.empty] at hn
  cases hn

theorem AtPort.ripeOk_of_hushed {t : Tenant} {s u : State} (h : AtPort t s u) (hcu : CarriersOk u) (hu : Hushed t u)
    (hs : RipeOk s) : RipeOk u := by
  refine ripeOk_iff.2 fun m => ?_
  by_cases hm : (s.carrier m).owner = t
  · exact hu.ripeAt hcu ((place_owner (h.place m)).trans hm)
  · exact h.ripeAt hcu hm (ripeOk_iff.1 hs m)

theorem Unmoved.quiet {s u : State} (h : Unmoved s u) (hn : Machine.night u = Machine.night s) : Quiet s u where
  night := hn
  link := h.link
  slots := h.slots
  standing := h.standing
  queue := h.queue

/-- Night re-evaluated: it is as it was, or every CAPACITY carrier is re-evaluated, or none is ripe and none queued. -/
theorem Unmoved.ripeOk_of_renights {cause : NightEnd} {s u : State} (hc : CarriersOk s) (ha : AnchorsOk s)
    (acts : Acts s u) (h : Unmoved s u) (hs : RipeOk s) : RipeOk (renight (Machine.night s) cause u) := by
  have hcu := acts.keeps_carriers hc
  have hau := acts.keeps_anchors ha
  rcases renight_cases (Machine.night s) cause u with ⟨same, hr⟩ | ⟨-, -, hr⟩ | ⟨-, dark, hr⟩ <;> rw [hr]
  · exact (Shift.quiet acts (h.quiet same)).run.keeps_ripeOk hc ha hs
  · refine ripeOk_iff.2 fun m => ?_
    rw [nightStart_eq_where]
    refine reevalWhere_ripeAt (fun v w k => funext fun n => ?_) hcu hau ?_
    · have lasting := k.carriers n
      simp only [Carrier.lasting, Prod.mk.injEq] at lasting
      simp only [lasting]
    · by_cases hrole : (u.carrier m).provisioned = true ∧ (u.carrier m).role = .capacity
      · exact .inl (by simp [hrole])
      · exact .inr (ripeAt_of_role hcu hrole)
  · have hcd := (dawned_acts u).keeps_carriers hcu
    refine (nightEnd_shifts cause u).keeps_ripeOk hcd ((dawned_acts u).keeps_anchors hau) (ripeOk_iff.2 fun m => ?_)
    exact (dawned_hushed dark _).ripeAt hcd rfl

theorem Deed.keeps_ripeOk {s t : State} (hc : CarriersOk s) (ha : AnchorsOk s) (h : Deed s t) (hs : RipeOk s) :
    RipeOk t := by
  cases h with
  | shift h => exact h.run.keeps_ripeOk hc ha hs
  | reconsiders n acts h anchor =>
    have hcu := acts.keeps_carriers hc
    have hau := acts.keeps_anchors ha
    refine ripeOk_iff.2 fun m => ?_
    by_cases hm : m = n
    · subst hm; exact reeval_ripeAt hcu hau m
    · refine (reeval_shifts n _).keeps (fun _ _ hc ha h hs => h.keeps_ripeAt hc ha hs) hcu hau
        (h.ripeAt hcu hm (fun hd => anchor.resolve_left fun hcap => ?_) (ripeOk_iff.1 hs m))
      obtain ⟨provisioned, -, hx⟩ := (dependent_iff _ n m).1 hd
      have place := standing_place (h.others m hm)
      rw [place_provisioned place] at provisioned
      rw [place_anchors place] at hx
      exact not_anchor_of_capacity ha provisioned hcap hx
  | reanchors n acts h role _ => exact h.ripeOk_of_reanchors (acts.keeps_carriers hc) (acts.keeps_anchors ha) role hs
  | @departs n u acts h role =>
    have hcu := acts.keeps_carriers hc
    have hau := acts.keeps_anchors ha
    have reevaluated := (reevalDependents_eases n u).acts
    exact (restoration_shifts n _).keeps_ripeOk (reevaluated.keeps_carriers hcu) (reevaluated.keeps_anchors hau)
      (h.ripeOk_of_reanchors hcu hau role hs)
  | @links t u acts h _ _ =>
    have hcu := acts.keeps_carriers hc
    refine ripeOk_iff.2 fun m => ?_
    rw [reevalOwned_eq_where]
    refine reevalWhere_ripeAt (fun v w k => funext fun n => ?_) hcu (acts.keeps_anchors ha) ?_
    · have lasting := k.carriers n
      simp only [Carrier.lasting, Prod.mk.injEq] at lasting
      simp only [lasting]
    · by_cases hm : (s.carrier m).owner = t
      · cases hp : (u.carrier m).provisioned with
        | true => exact .inl (by simp [(place_owner (h.place m)).trans hm])
        | false => exact .inr (ripeAt_of_role hcu (by simp [hp]))
      · exact .inr (h.ripeAt hcu hm (ripeOk_iff.1 hs m))
  | silences t state hstate =>
    have acts := silenced_acts t state s
    have hcu := acts.keeps_carriers hc
    exact (enterSilent_shifts t state s).keeps_ripeOk hcu (acts.keeps_anchors ha)
      ((atPort_silenced t state s).ripeOk_of_hushed hcu (silenced_hushed s hstate) hs)
  | rests w acts h link silent =>
    refine h.ripeOk_of_hushed (acts.keeps_carriers hc) ⟨.inl silent, List.eq_nil_iff_forall_not_mem.2 fun m hm => ?_⟩ hs
    obtain ⟨owner, hr⟩ := (hs w m).1 (h.queued m hm)
    rw [Barred.not_ripe (.inl (link ▸ silent)) owner] at hr
    cases hr
  | renights cause acts h => exact h.ripeOk_of_renights hc ha acts hs
  | resets addr =>
    refine ripeOk_iff.2 fun m => ripeAt_of_role (resetState_carriersOk addr s) ?_
    rw [resetState_carrier]
    simp [Carrier.reset]

end Sys2Proof.Machine
end

/-! # Every command is a run of deeds -/

section

namespace Sys2Proof.Machine

theorem Deed.run {s t : State} (h : Deed s t) : Deeds s t := .single h

theorem Shift.deeds {s t : State} (h : Shift s t) : Deeds s t := (Deed.shift h).run

theorem Shifts.deeds {s t : State} (h : Shifts s t) : Deeds s t :=
  Relation.ReflTransGen.mono (p := Deed) (fun _ _ hh => Deed.shift hh) _ _ h

theorem quiet_deeds {s t : State} (acts : Acts s t) (h : Quiet s t) : Deeds s t := (Shift.quiet acts h).deeds

/-- A change made on a condition. -/
theorem ite_deeds {s t : State} (c : Prop) [Decidable c] (h : c → Deeds s t) : Deeds s (if c then t else s) := by
  split
  · rename_i hc; exact h hc
  · exact .refl

theorem forList_deeds {α : Type} (f : α → State → State) (hf : ∀ x s, Deeds s (f x s)) (l : List α) (s : State) :
    Deeds s (forList l f s) :=
  forList_induction (Deeds s) f (fun x u h => h.trans (hf x u)) l s .refl

/-! ### Changes beside carriers, ports, clock and lines -/

theorem Apart.deeds {s t : State} (h : Apart s t) (acts : Acts s t) : Deeds s t := quiet_deeds acts h.quiet

theorem releaseSlot_apart (s : State) : Apart s (releaseSlot s) :=
  .trans (t := { s with ramp := { s.ramp with slot := none } }) ⟨rfl, rfl, rfl, rfl⟩ (grant_apart _)

theorem releaseSlot_deeds (s : State) : Deeds s (releaseSlot s) := (releaseSlot_apart s).deeds (releaseSlot_acts s)

theorem graceTest_apart (r : RailId) (s : State) : Apart s (graceTest r s) := by
  rw [graceTest]
  split
  · exact ⟨rfl, rfl, rfl, rfl⟩
  · split <;> exact ⟨rfl, rfl, rfl, rfl⟩

theorem enterHold_apart (r : RailId) (s : State) : Apart s (enterHold r s) := by
  rw [enterHold]
  split
  · exact (modRail_apart s r _).trans (graceTest_apart r _)
  · exact modRail_apart s r _

theorem railLoses_apart (was : Power) (r : RailId) (s : State) : Apart s (railLoses was r s) := by
  have falls : Apart s (needFalls r s) := by
    rw [needFalls]
    split
    · split
      · exact enterHold_apart r s
      · exact ⟨rfl, rfl, rfl, rfl⟩
      all_goals exact .refl s
    · exact .refl s
  have leaves : Apart s (sleeperLeaves r s) := by
    rw [sleeperLeaves]
    split
    · exact modRail_apart s r _
    · exact .refl s
  rw [railLoses]
  split
  · exact falls
  · split
    · exact leaves
    · exact .refl s

theorem railLoses_shift (was : Power) (r : RailId) (s : State) : Shift s (railLoses was r s) :=
  .quiet (railLoses_moves was r s).acts (railLoses_apart was r s).quiet

theorem addAlert_deeds (code : Fin 10) (s : State) : Deeds s (addAlert code s) :=
  Apart.deeds ⟨rfl, rfl, rfl, rfl⟩ (addAlert_acts code s)

theorem rail_deeds (r : RailId) (f : Rail → Rail) (s : State) (h : ∀ x, (f x).settings = x.settings) :
    Deeds s (s.modRail r f) := (modRail_apart s r f).deeds (rail_acts r f s h)

/-- A port changes in what the scheduling laws and the settings law do not look at. -/
theorem port_deeds (t : Tenant) (f : Port → Port) (s : State)
    (h : ∀ p, (f p).settings = p.settings ∧ (f p).link = p.link) : Deeds s (s.modPort t f) :=
  quiet_deeds (port_acts t f s fun p => (h p).1) (quiet_modPort s t f fun p => by
    obtain ⟨settings, link⟩ := h p
    simp only [Port.settings, Prod.mk.injEq] at settings
    obtain ⟨-, slots, queue⟩ := settings
    rw [Port.standing, Port.standing, link, slots, queue])

/-! ### Wakes and exits -/

theorem powered_deeds {n : Site} {s : State} (hp : (s.carrier n).power = .waking) : Deeds s (powered n s) := by
  cases hr : (s.carrier n).role with
  | capacity => exact (powered_capacity_shifts hp hr).deeds
  | coverage =>
    have acts : Acts s (post ((enterActive n s).carrier n).owner (.powered n (noticeNumber (enterActive n s) n))
        (enterActive n s)) :=
      (Eases.acts (Ease.activates n (.inr hp)).run).trans (post_acts _ _ _)
    simp only [powered, hr, beq_self_eq_true, if_true]
    refine (Deed.reanchors n acts ((enterActive_change n s).quiet (post_quiet _ _ _)) ?_ ?_).run
    · rw [post, carrier_modPort, carrier_enterActive_same]; exact hr
    · intro ha; rw [hp] at ha; cases ha

/-- A carrier enters WAKING from a state other than ACTIVE; its pins may have changed before. -/
theorem enterWaking_deeds_of {n : Site} {cls : RampClass} {s v : State} (f : Carrier → Carrier)
    (hv : (v.modCarrier n fun c => { c with power := .waking, cause := none }) = s.modCarrier n f)
    (acts : Acts s (s.modCarrier n f)) (hp : (s.carrier n).power ≠ .active)
    (hf : (f (s.carrier n)).power = .waking) (place : (f (s.carrier n)).place = (s.carrier n).place) :
    Deeds s (enterWaking n cls v) := by
  have enters : Shift s (s.modCarrier n f) :=
    (Change.modCarrier s n f (fun _ => place) (hf ▸ .of_awake rfl)).shift_of_power acts
      (by rw [carrier_modCarrier_same, hf]; exact nofun) (.inr hp)
  refine .head (.shift enters) ?_
  rw [← hv]
  exact enterWaking_run (fun _ _ => Deed.shift) n cls v fun u hw _ => powered_deeds hw

theorem enterWaking_deeds_of_faulted (n : Site) (cls : RampClass) (s : State) (h : (s.carrier n).power = .faulted) :
    Deeds s (enterWaking n cls s) :=
  enterWaking_deeds_of _ rfl (Act.recovers n h).run (by simp [h]) rfl rfl

/-- A carrier leaves its power state for one out of use, and then come the consequences: those of an ACTIVE carrier
reach no other carrier but through the restoration of its dependents. -/
theorem exit_deeds {n : Site} {s t u : State} (acts : Acts s t) (h : Change n s t)
    (hp : (t.carrier n).power ≠ .active) (role : (t.carrier n).role = (s.carrier n).role)
    (alone : (s.carrier n).power = .active → Shift t u ∧ Quiet t u)
    (follows : (s.carrier n).power ≠ .active → Shifts t u) : Deeds s (anchorLeaves n (s.carrier n) u) := by
  rw [anchorLeaves]
  split
  · rename_i hc
    simp only [Bool.and_eq_true, beq_iff_eq] at hc
    obtain ⟨shift, quiet⟩ := alone hc.2
    refine (Deed.departs n (acts.trans shift.acts) (h.quiet quiet) ?_).run
    rw [place_role (standing_place (quiet.standing n)), role]
    exact hc.1
  · rename_i hc
    by_cases ha : (s.carrier n).power = .active
    · have capacity : (s.carrier n).role = .capacity := by
        cases hr : (s.carrier n).role with
        | coverage => simp [hr, ha] at hc
        | capacity => rfl
      exact (Shift.run (h.shift_of_power acts hp (.inl capacity))).deeds.trans (alone ha).1.deeds
    · exact (h.shift_of_power acts hp (.inr ha)).deeds.trans (follows ha).deeds

/-- A record right after its carrier was FAULTED. -/
def Carrier.downed (cause : FaultCause) (c : Carrier) : Carrier :=
  { c with
    power := .faulted, cause := some cause, staleTimer := none, dwell := .absent, answerTimer := none
    drainTimer := none, holdoff := none }

/-- The state in which a carrier is FAULTED, before the ends of its drain and its exchange (R151). -/
def downed (n : Site) (cause : FaultCause) (s : State) : State :=
  { (unqueue n s).modCarrier n (Carrier.downed cause) with stack := s.stack.filter (· != n) }

theorem takeToFaulted_eq (n : Site) (cause : FaultCause) (s : State) : takeToFaulted n cause s =
    leftExchange (s.carrier n).power (s.carrier n).owner
      (leftDraining (s.carrier n).power (s.carrier n).anchors (downed n cause s)) := rfl

theorem takeToFaulted_active {n : Site} {cause : FaultCause} {s : State} (h : (s.carrier n).power = .active) :
    takeToFaulted n cause s = downed n cause s := by
  rw [takeToFaulted_eq, h]; rfl

theorem takeToFaulted_shifts (n : Site) (cause : FaultCause) (s : State) :
    Shifts (downed n cause s) (takeToFaulted n cause s) :=
  (leftDraining_shifts _ _ _).trans (leftExchange_shifts _ _ _)

theorem carrier_downed_same (n : Site) (cause : FaultCause) (s : State) :
    (downed n cause s).carrier n = Carrier.downed cause { s.carrier n with ripeTime := none } := by
  change ((unqueue n s).modCarrier n (Carrier.downed cause)).carrier n = _
  rw [carrier_modCarrier_same, carrier_unqueue_same]

theorem downed_change (n : Site) (cause : FaultCause) (s : State) : Change n s (downed n cause s) :=
  .of_record rfl rfl (fun _ hm => (carrier_modCarrier_ne (unqueue n s) _ hm).trans (carrier_unqueue_ne s hm)) (.inr rfl)
    (fun _ => by rw [carrier_downed_same]; rfl) (by rw [carrier_downed_same]; exact .of_awake rfl)

/-- A carrier in service is FAULTED, and consequences that reach no carrier follow. -/
theorem fault_deeds {n : Site} {cause : FaultCause} {s : State} (h : (s.carrier n).power.inService = true)
    (f : State → State) (hf : ∀ u, Shift u (f u) ∧ Quiet u (f u)) :
    Deeds s (anchorLeaves n (s.carrier n) (f (takeToFaulted n cause s))) := by
  refine exit_deeds (t := downed n cause s) (Move.faults n cause h).run.acts (downed_change n cause s) ?_ ?_
    (fun ha => ?_) fun _ => ?_
  · rw [carrier_downed_same]; exact nofun
  · rw [carrier_downed_same]; rfl
  · rw [takeToFaulted_active ha]; exact hf _
  · exact (takeToFaulted_shifts n cause s).tail (hf _).1

theorem tenantFault_deeds (n : Site) (s : State) (h : (s.carrier n).power.inService = true) :
    Deeds s (tenantFault n s) :=
  fault_deeds h _ fun u => ⟨railLoses_shift _ _ u, (railLoses_apart _ _ u).quiet⟩

theorem sweepCarrier_deeds (n : Site) (s : State) : Deeds s (sweepCarrier n s) := by
  rw [sweepCarrier]
  refine ite_deeds _ fun h => ?_
  exact fault_deeds h _ fun u => ⟨post_shift _ _ u, post_quiet _ _ u⟩

theorem withdrawn_change (n : Site) (s : State) : Change n s (withdrawn n s) :=
  .of_record rfl rfl (fun _ hm => withdrawn_carrier_ne s hm) (.inr rfl)
    (fun _ => by rw [withdrawn_carrier_same]; rfl) (by rw [withdrawn_carrier_same]; exact .of_awake rfl)

theorem disableCarrier_deeds (n : Site) (s : State) (h : (s.carrier n).power ≠ .offline) :
    Deeds s (disableCarrier n s) := by
  let c := s.carrier n
  let v := railLoses c.power c.rail (takeOffline n s)
  have told : Shift (withdrawn n s) (takeOffline n s) := post_shift _ _ _
  have quiet : Quiet (withdrawn n s) v := (post_quiet _ _ _).trans (railLoses_apart _ _ _).quiet
  have acts : Acts (withdrawn n s) v := told.acts.trans (railLoses_shift _ _ _).acts
  refine exit_deeds (t := withdrawn n s) (u := leftDraining c.power c.anchors (leftExchange c.power c.owner v))
    (Act.disables n h).run (withdrawn_change n s) ?_ ?_ (fun ha => ?_) fun _ => ?_
  · rw [withdrawn_carrier_same]; exact nofun
  · rw [withdrawn_carrier_same]; rfl
  · have same : leftDraining c.power c.anchors (leftExchange c.power c.owner v) = v := by
      have ha : c.power = .active := ha
      rw [ha]; rfl
    rw [same]
    exact ⟨.quiet acts quiet, quiet⟩
  · exact .head (.quiet acts quiet) ((leftExchange_shifts _ _ v).trans (leftDraining_shifts _ _ _))

/-! ### Rails -/

theorem sweepRail_deeds (r : RailId) (s : State) : Deeds s (sweepRail r s) :=
  forList_deeds _ (fun n u => ite_deeds _ fun _ => sweepCarrier_deeds n u) allSites s

theorem enterFault_deeds (r : RailId) (s : State) : Deeds s (enterFault r s) := by
  have down : Deeds s (s.modRail r fun x =>
      { x with state := .fault, graceTimer := none, settleTimer := none, held := false }) :=
    rail_deeds r _ s fun _ => by rfl
  exact (down.trans (addAlert_deeds _ _)).trans (sweepRail_deeds r _)

theorem powerCarriers_deeds (r : RailId) (s : State) : Deeds s (powerCarriers r s) := by
  refine forList_deeds _ (fun n u => ite_deeds _ fun h => ?_) allSites s
  simp only [Bool.and_eq_true, beq_iff_eq] at h
  exact powered_deeds h.2

theorem rampSucceeds_deeds (r : RailId) (s : State) : Deeds s (rampSucceeds r s) := by
  have stop : Deeds s (s.modRail r fun x => { x with settleTimer := none, retry := false }) :=
    rail_deeds r _ s fun _ => by rfl
  rw [rampSucceeds]
  refine (stop.trans ?_).trans (releaseSlot_deeds _)
  split
  · exact (enterHold_apart r _).deeds (enterHold_acts r _)
  · exact (rail_deeds r _ _ fun _ => by rfl).trans (powerCarriers_deeds r _)

theorem rampFails_deeds (r : RailId) (s : State) : Deeds s (rampFails r s) := by
  rw [rampFails]
  split
  · exact (enterFault_deeds r s).trans (releaseSlot_deeds _)
  · exact (rail_deeds r _ s fun _ => by rfl).trans (releaseSlot_deeds _)

theorem settleExpires_deeds (r : RailId) (level : Bool) (s : State) : Deeds s (settleExpires r level s) := by
  have told : Deeds s (tellPowerGood r (sampledPowerGood s r level) s) := rail_deeds r _ s fun _ => by rfl
  rw [settleExpires]
  refine told.trans ?_
  split
  · split
    · exact rampSucceeds_deeds r _
    · exact rampFails_deeds r _
  · exact rail_deeds r _ _ fun _ => by rfl

theorem retryExpires_apart (r : RailId) (s : State) : Apart s (retryExpires r s) := by
  have stop := modRail_apart s r fun x => { x with retryTimer := none }
  rw [retryExpires]
  split
  · split
    · exact stop.trans (modRail_apart _ r _)
    · exact stop.trans (queueRail_apart r .urgent _)
  · exact stop

theorem powerFalls_deeds (r : RailId) (s : State) : Deeds s (powerFalls r s) := by
  have told : Deeds s (tellPowerGood r false s) := rail_deeds r _ s fun _ => by rfl
  rw [powerFalls]
  exact told.trans (ite_deeds _ fun _ => enterFault_deeds r _)

theorem setRailRule_apart (rail idle even full reduced : Nat) (s : State) :
    Apart s (setRailRule rail idle even full reduced s).1 := by
  rw [setRailRule]
  split
  · exact .refl s
  · split
    · rw [answerOk_fst]; exact modRail_apart s _ _
    · exact .refl s

theorem setBiasRule_apart (rail cls : Nat) (s : State) : Apart s (setBiasRule rail cls s).1 := by
  rw [setBiasRule]
  split
  · exact .refl s
  · split
    · exact .refl s
    · rw [answerOk_fst]; exact modRail_apart s _ _

theorem forRails_apart (f : RailId → State → State) (hf : ∀ r u, Apart u (f r u)) (s : State) :
    Apart s (forRails f s) :=
  forRails_induction (Apart s) f (fun r u h => h.trans (hf r u)) s (.refl s)

theorem clearTallyRule_apart (rail : Nat) (s : State) : Apart s (clearTallyRule rail s).1 := by
  rw [clearTallyRule]
  split
  · exact forRails_apart _ (fun r u => modRail_apart u r _) s
  · split
    · exact .refl s
    · exact modRail_apart s _ _

theorem clearFaultRailRule_deeds (rail : Nat) (s : State) : Deeds s (clearFaultRailRule rail s).1 := by
  rw [clearFaultRailRule]
  split
  · exact .refl
  · split
    · exact .refl
    · rw [answerOk_fst]
      refine (rail_deeds _ _ s fun _ => by rfl).trans (forList_deeds _ (fun n u => ite_deeds _ fun h => ?_) allSites _)
      simp only [Bool.and_eq_true, beq_iff_eq] at h
      exact enterWaking_deeds_of_faulted n .urgent u h.1.2

theorem clearFaultCarrierRule_deeds (n : Nat) (s : State) : Deeds s (clearFaultCarrierRule n s).1 := by
  rw [clearFaultCarrierRule]
  split
  · exact .refl
  · split
    · rename_i i _ h
      exact enterWaking_deeds_of_faulted i .ordinary s ((clearable_iff s i).1 h).1
    · exact .refl

/-! ### Carriers -/

/-- A record out of use changes in whatever it holds, its power state apart. -/
theorem offline_deeds {n : Site} {f : Carrier → Carrier} {s : State} (acts : Acts s (s.modCarrier n f))
    (h : CarriersOk s → (s.carrier n).power = .offline) (hf : (f (s.carrier n)).power = (s.carrier n).power) :
    Deeds s (s.modCarrier n f) := by
  refine (Shift.turns n acts fun hc => ?_).deeds
  have hp : (f (s.carrier n)).power = .offline := hf.trans (h hc)
  have written : ((s.modCarrier n f).carrier n).power ≠ .active := by
    rw [carrier_modCarrier_same, hp]; exact nofun
  exact (Change.modCarrier s n f (fun ho => absurd hp ho) (hf ▸ .same _)).turn_of_power (acts.keeps_carriers hc) written
    (.inr (anchorage_of_power written (by simp [h hc])))

theorem setCarrierRule_deeds (n owner role rail count a0 a1 a2 : Nat) (trim : Int) (s : State) :
    Deeds s (setCarrierRule n owner role rail count a0 a1 a2 trim s).1 := by
  rw [setCarrierRule]
  split
  · exact .refl
  · split
    · exact .refl
    · rename_i i _ hidle
      split
      · dsimp only
        split
        · rename_i h
          simp only [Bool.and_eq_true, decide_eq_true_eq] at h
          obtain ⟨⟨⟨-, htrim⟩, hfit⟩, hdep⟩ := h
          have provisionable := provisionable_of_checks hidle (List.length_take_le' _ _) htrim hfit hdep
          refine offline_deeds (Act.provisions i _ _ _ _ trim provisionable).run (fun hc => ?_) rfl
          by_cases hp : (s.carrier i).provisioned = true
          · exact provisionable.idle hp
          · exact (hc.record i).of_unprovisioned (by simpa using hp)
        · exact .refl
      · exact .refl

theorem clearCarrierRule_deeds (n : Nat) (s : State) : Deeds s (clearCarrierRule n s).1 := by
  rw [clearCarrierRule]
  split
  · exact .refl
  · split
    · exact .refl
    · rename_i i _ hp
      split
      · exact .refl
      · rename_i hl
        rw [listedByOther_iff] at hl
        have offline : (s.carrier i).power = .offline := by simpa using hp
        exact offline_deeds (Act.clears i offline fun m hm hpm hmem => hl ⟨m, hm, hpm, hmem⟩).run (fun _ => offline) rfl

theorem enableRule_deeds (n : Nat) (s : State) : Deeds s (enableRule n s).1 := by
  rw [enableRule]
  split
  · exact .refl
  · rename_i i hi
    obtain ⟨-, hprov⟩ := provisionedSite_eq_some.1 hi
    dsimp only
    split
    · exact .refl
    · rename_i hp
      have offline : (s.carrier i).power = .offline := by simpa using hp
      split
      · exact .refl
      · split
        · exact .refl
        · obtain ⟨p, hpins⟩ := enablePins_eq s i
          exact enterWaking_deeds_of _ (by rw [hpins, modCarrier_modCarrier]) (Act.enables i p hprov offline).run
            (by simp [offline]) rfl rfl

theorem disableRule_deeds (n : Nat) (s : State) : Deeds s (disableRule n s).1 := by
  rw [disableRule]
  split
  · exact .refl
  · split
    · exact .refl
    · rename_i i _ h
      exact disableCarrier_deeds i s (by simpa using h)

/-- An input of a carrier's own ripeness is written, and it is re-evaluated. -/
theorem reconsider_deeds {n : Site} {f : Carrier → Carrier} {s : State} (acts : Acts s (s.modCarrier n f))
    (place : (f (s.carrier n)).place = (s.carrier n).place) (power : (f (s.carrier n)).power = (s.carrier n).power)
    (stale : (f (s.carrier n)).stale = (s.carrier n).stale) : Deeds s (reeval n (s.modCarrier n f)) := by
  refine (Deed.reconsiders n acts (Change.modCarrier s n f (fun _ => place) (power ▸ .same _)) (.inr ?_)).run
  rw [carrier_modCarrier_same, Carrier.anchorage, Carrier.anchorage, power, stale]

theorem not_ripe_of_pinned {s : State} {n : Site} (h : (s.carrier n).pins.isEmpty = false) : ripe s n = false := by
  refine Bool.eq_false_iff.2 fun hr => ?_
  simp only [ripe, Bool.and_eq_true] at hr
  obtain ⟨⟨⟨⟨-, unpinned⟩, -⟩, -⟩, -⟩ := hr
  rw [h] at unpinned; cases unpinned

theorem pinSet_put_not_empty (p : PinSet) (src : PinSource) : (p.put src true).isEmpty = false := by
  cases src <;> simp [PinSet.put, PinSet.isEmpty]

/-- A pin source is written on a carrier that is not ACTIVE. -/
theorem pins_deeds {n : Site} {src : PinSource} {v : Bool} {s : State} (hv : (s.carrier n).power = .offline → v = false)
    (hp : (s.carrier n).power ≠ .active) : Deeds s (s.modCarrier n fun c => { c with pins := c.pins.put src v }) :=
  ((Change.modCarrier s n _ (fun _ => by rfl) (.same _)).shift_of_power (Act.pins n src v hv).run (by simpa using hp)
    (.inr hp)).deeds

theorem addPin_deeds (src : PinSource) (n : Site) (s : State) (h : (s.carrier n).power ≠ .offline) :
    Deeds s (addPin src n s) := by
  cases hp : (s.carrier n).pins.has src with
  | true => rw [addPin_present src n s hp]
  | false =>
    rw [addPin, if_neg (by simp [hp])]
    dsimp only
    split
    · have pinned :
        ((s.modCarrier n fun c => { c with pins := c.pins.put src true }).carrier n).pins.isEmpty = false := by
        rw [carrier_modCarrier_same]; exact pinSet_put_not_empty _ src
      rw [← reeval_of_not_ripe (not_ripe_of_pinned pinned)]
      exact reconsider_deeds (Act.pins n src true fun ho => absurd ho h).run rfl rfl rfl
    all_goals rename_i hpow
    all_goals refine (pins_deeds (src := src) (v := true) (fun ho => absurd ho h) (by simp [hpow])).trans ?_
    · exact (withdraw_shifts n .pin _).deeds
    · exact (withdraw_shifts n .pin _).deeds
    · exact (wakeCarrier_shifts n .ordinary _).deeds
    all_goals exact .refl

theorem removePin_deeds (src : PinSource) (n : Site) (s : State) : Deeds s (removePin src n s) := by
  have acts := (Act.pins (s := s) n src false fun _ => rfl).run
  cases hp : (s.carrier n).pins.has src with
  | true =>
    rw [removePin, if_pos hp]
    dsimp only
    split
    · exact reconsider_deeds acts rfl rfl rfl
    · rename_i hstill
      rw [carrier_modCarrier_same] at hstill
      have before : (s.carrier n).pins.isEmpty = false := by
        refine Bool.eq_false_iff.2 fun he => ?_
        rw [(pinSet_isEmpty_iff _).1 he] at hp
        cases src <;> cases hp
      refine quiet_deeds acts (quiet_modCarrier s n _ ?_)
      rw [Carrier.standing, Carrier.standing, before, Bool.eq_false_iff.2 hstill]
      rfl
  | false => rw [removePin_absent src n s hp]

theorem pinRule_deeds (n : Nat) (s : State) : Deeds s (pinRule n s).1 := by
  rw [pinRule]
  split
  · exact .refl
  · split
    · exact .refl
    · rename_i i _ h
      exact addPin_deeds .site i s (by simpa using h)

theorem unpinRule_deeds (n : Nat) (s : State) : Deeds s (unpinRule n s).1 := by
  rw [unpinRule]
  split
  · exact .refl
  · split
    · exact .refl
    · exact removePin_deeds .site _ s

theorem setSlicesRule_deeds (tenant p0 p1 : Nat) (s : State) : Deeds s (setSlicesRule tenant p0 p1 s).1 := by
  rw [setSlicesRule]
  split
  · split
    · exact .refl
    · split
      · exact .refl
      · rw [answerOk_fst]
        exact port_deeds _ _ s fun _ => ⟨rfl, rfl⟩
  · exact .refl

/-! ### Expiries -/

theorem staled_eq (n : Site) (s : State) : staled n s =
    unqueue n (s.modCarrier n fun c => { c with staleTimer := none, stale := true, dwell := .absent }) := by
  rw [unqueue, carrier_modCarrier_same, modPort_modCarrier, modCarrier_modCarrier]
  rfl

theorem staled_change (n : Site) (s : State) : Change n s (staled n s) :=
  .of_record rfl rfl (fun _ hm => carrier_modCarrier_ne _ _ hm) (.inr rfl)
    (fun _ => by rw [carrier_staled_same]; rfl) (by rw [carrier_staled_same]; exact .same _)

/-- An ACTIVE carrier goes stale: of a CAPACITY carrier that is all, of a COVERAGE carrier the dependents follow. -/
theorem staleExpires_active_deeds {n : Site} {s : State} (h : (s.carrier n).power = .active) :
    Deeds s (staleExpires n s) := by
  have acts : Acts s (staled n s) := by
    rw [staled_eq]
    exact (Moves.acts (Move.stales n h).run).trans (Eases.acts (Ease.leaves n).run)
  rw [staleExpires_active h]
  cases hr : (s.carrier n).role with
  | coverage =>
    refine (Deed.reanchors n acts (staled_change n s) ?_ ?_).run
    · rw [carrier_staled_same]; exact hr
    · rw [carrier_staled_same]; exact id
  | capacity =>
    refine (Shift.turns n acts fun _ => ?_).deeds
    refine { toChange := staled_change n s, unripe := not_ripe_of ?_, out := ?_, anchor := .inl hr }
    · rw [carrier_staled_same]; exact .inr (.inr (.inr (.inl rfl)))
    · rw [carrier_staled_same]; exact not_mem_unqueue n s

theorem staleExpires_deeds (n : Site) (s : State) : Deeds s (staleExpires n s) := by
  have stop : Deeds s (s.modCarrier n fun c => { c with staleTimer := none }) :=
    quiet_deeds (Moves.acts (Move.staleStops n).run) (quiet_modCarrier s n _ rfl)
  cases hp : (s.carrier n).power with
  | active => exact staleExpires_active_deeds hp
  | offered => rw [staleExpires_offered n s hp]; exact (withdraw_shifts n .stale s).deeds
  | _ => simp only [staleExpires, hp]; exact stop

theorem dwellEnds_eq (n : Site) (s : State) :
    ∃ d, dwellEnds n s = s.modCarrier n fun c => { c with dwell := d } := by
  rw [dwellEnds]
  split
  · exact ⟨_, rfl⟩
  all_goals exact ⟨(s.carrier n).dwell, (modCarrier_eq_self rfl).symm⟩

theorem minAwakeEnds_eq (n : Site) (s : State) :
    ∃ m, minAwakeEnds n s = s.modCarrier n fun c => { c with minAwake := m } := by
  rw [minAwakeEnds]
  split
  · exact ⟨_, rfl⟩
  all_goals exact ⟨(s.carrier n).minAwake, (modCarrier_eq_self rfl).symm⟩

theorem dwellElapses_deeds (n : Site) (s : State) : Deeds s (reeval n (dwellEnds n s)) := by
  have acts := (dwellEnds_moves n s).acts
  obtain ⟨d, h⟩ := dwellEnds_eq n s
  rw [h] at acts ⊢
  exact reconsider_deeds acts rfl rfl rfl

theorem minAwakePasses_deeds (n : Site) (s : State) : Deeds s (reeval n (minAwakeEnds n s)) := by
  have acts := (minAwakeEnds_moves n s).acts
  obtain ⟨m, h⟩ := minAwakeEnds_eq n s
  rw [h] at acts ⊢
  exact reconsider_deeds acts rfl rfl rfl

theorem bothEnd_deeds (n : Site) (s : State) : Deeds s (reeval n (minAwakeEnds n (dwellEnds n s))) := by
  have acts := (dwellEnds_moves n s).acts.trans (minAwakeEnds_moves n _).acts
  obtain ⟨d, h⟩ := dwellEnds_eq n s
  obtain ⟨m, k⟩ := minAwakeEnds_eq n (dwellEnds n s)
  rw [k, h, modCarrier_modCarrier] at acts ⊢
  exact reconsider_deeds acts rfl rfl rfl

theorem schedulerEnds_deeds (kinds : List Period) (n : Site) (s : State) : Deeds s (schedulerEnds kinds n s) := by
  rw [schedulerEnds]
  cases kinds.contains .dwell && dwellDue s n <;> cases kinds.contains .minAwake && minAwakeDue s n
  · exact .refl
  · exact minAwakePasses_deeds n s
  · exact dwellElapses_deeds n s
  · exact bothEnd_deeds n s

theorem answerExpires_deeds (n : Site) (s : State) : Deeds s (answerExpires n s) := by
  by_cases h : (s.carrier n).power = .offered
  · rw [answerExpires_offered n s h]; exact (withdraw_shifts n .timeout s).deeds
  · rw [answerExpires, if_neg (by simp [h])]
    exact quiet_deeds (Moves.acts (Move.answerStops n h).run) (quiet_modCarrier s n _ rfl)

theorem drainExpires_deeds (n : Site) (s : State) : Deeds s (drainExpires n s) := by
  by_cases h : (s.carrier n).power = .draining
  · rw [drainExpires_draining n s h]; exact (withdraw_shifts n .timeout s).deeds
  · rw [drainExpires, if_neg (by simp [h])]
    exact quiet_deeds (Moves.acts (Move.drainStops n h).run) (quiet_modCarrier s n _ rfl)

theorem exchangeEnds_deeds (kinds : List Period) (n : Site) (s : State) : Deeds s (exchangeEnds kinds n s) := by
  rw [exchangeEnds]
  split
  · exact answerExpires_deeds n s
  · exact ite_deeds _ fun _ => drainExpires_deeds n s

theorem graceExpires_deeds (r : RailId) (s : State) : Deeds s (graceExpires r s) := by
  refine Apart.deeds ?_ (graceExpires_moves r s).acts
  rw [graceExpires]
  split
  · exact graceTest_apart r s
  · exact modRail_apart s r _

theorem endPeriods_deeds (kinds : List Period) (s : State) : Deeds s (endPeriods kinds s) := by
  rw [endPeriods]
  refine ((((forList_deeds _ (fun n u => ?_) allSites s).trans (forList_deeds _ (fun n u => ?_) allSites _)).trans
    (forList_deeds _ (fun n u => ?_) allSites _)).trans (forList_deeds _ (fun n u => ?_) allSites _)).trans
    (forList_deeds _ (fun r u => ?_) allRails _)
  · exact ite_deeds _ fun _ => staleExpires_deeds n u
  · exact schedulerEnds_deeds kinds n u
  · exact exchangeEnds_deeds kinds n u
  · exact ite_deeds _ fun _ => (holdoff_shift n none u).deeds
  · exact ite_deeds _ fun _ => graceExpires_deeds r u

theorem rebank_deeds (before : Fin 2) (s : State) : Deeds s (rebank before s) := by
  rw [rebank]
  split
  · exact .refl
  · exact endPeriods_deeds _ s

/-! ### Clock, lines and banks -/

theorem unmoved_of_parts {s u : State} (carriers : u.carriers = s.carriers) (ports : u.ports = s.ports) :
    Unmoved s u := by
  have port := port_of_ports ports
  refine ⟨fun w => by rw [port], fun w => by rw [port], fun m => ?_, fun w => by rw [port]⟩
  rw [State.carrier, carriers]
  rfl

theorem setWindowRule_deeds (window enabled start stop : Nat) (s : State) :
    Deeds s (setWindowRule window enabled start stop s).1 := by
  rw [setWindowRule]
  split
  · rename_i hw
    split
    · exact .refl
    · split
      · rename_i h
        simp only [Bool.and_eq_true, decide_eq_true_eq] at h
        refine (Deed.renights .window (Act.clock _ fun ⟨hwin, htod, hsub⟩ => ⟨?_, htod, hsub⟩).run
          (unmoved_of_parts rfl rfl)).run
        exact getElem_set_ok (P := fun w : Window => w.start ≤ 1439 ∧ w.stop ≤ 1439) _ _ hw _ hwin h
      · exact .refl
  · exact .refl

theorem setTimeRule_deeds (tod : Nat) (s : State) : Deeds s (setTimeRule tod s).1 := by
  rw [setTimeRule]
  split
  · rename_i h
    exact (Deed.renights .window (Act.clock _ fun ⟨hwin, _, hsub⟩ => ⟨hwin, h, hsub⟩).run
      (unmoved_of_parts rfl rfl)).run
  · exact .refl

theorem night_of_line {s t : State} (hc : t.clock = s.clock)
    (hi : t.inputs.holdIn.conditioned = s.inputs.holdIn.conditioned) (hd : t.inputs.standDown = s.inputs.standDown) :
    night t = night s := by
  simp only [night, siteHold, hc, hi, hd]

/-- The lines change in what site hold does not look at. -/
theorem inputs_deeds {s : State} {i : Inputs} (hi : i.holdIn.conditioned = s.inputs.holdIn.conditioned)
    (hd : i.standDown = s.inputs.standDown) : Deeds s { s with inputs := i } :=
  quiet_deeds (Act.inputs i).run (Unmoved.quiet (unmoved_of_parts rfl rfl) (night_of_line (by rfl) hi hd))

theorem setLine_conditioned (i : Inputs) (which : InputLine) (l : Line)
    (h : l.conditioned = (i.line which).conditioned) :
    (i.setLine which l).holdIn.conditioned = i.holdIn.conditioned ∧ (i.setLine which l).standDown = i.standDown := by
  cases which
  · exact ⟨h, rfl⟩
  · exact ⟨rfl, rfl⟩

theorem line_deeds (which : InputLine) (l : Line) (s : State) (h : l.conditioned = (s.inputs.line which).conditioned) :
    Deeds s { s with inputs := s.inputs.setLine which l } :=
  inputs_deeds (setLine_conditioned s.inputs which l h).1 (setLine_conditioned s.inputs which l h).2

theorem compare_conditioned (l : Line) (now : Time) : (l.compare now).conditioned = l.conditioned := by
  rw [Line.compare]
  split
  · rfl
  · split <;> rfl

theorem debounceExpires_deeds (line : InputLine) (s : State) : Deeds s (debounceExpires line s) :=
  (Deed.renights .hold (Act.inputs _).run (unmoved_of_parts rfl rfl)).run.trans (rebank_deeds _ _)

theorem recheckLine_deeds (line : InputLine) (s : State) : Deeds s (recheckLine line s) :=
  (line_deeds line _ s (compare_conditioned _ _)).trans (ite_deeds _ fun _ => debounceExpires_deeds line _)

theorem setInputsRule_deeds (hold source debounce : Nat) (s : State) :
    Deeds s (setInputsRule hold source debounce s).1 := by
  rw [setInputsRule]
  split
  · exact ((inputs_deeds (by rfl) (by rfl)).trans (recheckLine_deeds _ _)).trans (recheckLine_deeds _ _)
  · exact .refl

theorem writeParam_deeds (b : Fin 2) (code v : Nat) (s : State)
    (h : BankOk s.banks.bank[b] → BankOk (s.banks.bank[b].withParam code v)) : Deeds s (writeParam b code v s) := by
  have write : Deeds s { s with banks :=
      { s.banks with bank := s.banks.bank.set b.val (s.banks.bank[b.val].withParam code v) } } :=
    Apart.deeds ⟨rfl, rfl, rfl, rfl⟩ (Act.banks _ fun hb => getElem_set_ok _ _ b.isLt _ hb (h (hb b))).run
  rw [writeParam]
  dsimp only
  split
  · exact write.trans (endPeriods_deeds _ _)
  · exact write

theorem setBankParamRule_deeds (bk code v : Nat) (s : State) : Deeds s (setBankParamRule bk code v s).1 := by
  rw [setBankParamRule]
  split
  · split
    · exact .refl
    · rename_i hc
      split
      · exact .refl
      · rename_i hr
        simp only [Bool.or_eq_true, decide_eq_true_eq, not_or, Nat.not_lt] at hr
        split
        · exact .refl
        · rename_i ho
          exact writeParam_deeds _ _ _ _ fun hb => withParam_ok hb (Nat.not_le.1 hc) hr.1 hr.2 (by simpa using ho)
  · exact .refl

theorem selectBankRule_deeds (mode : Nat) (s : State) : Deeds s (selectBankRule mode s).1 := by
  rw [selectBankRule]
  split
  · exact .refl
  · rename_i m _
    have write : Deeds s { s with banks := { s.banks with mode := m } } :=
      Apart.deeds ⟨rfl, rfl, rfl, rfl⟩ (Act.banks _ fun h => by exact h).run
    exact write.trans (rebank_deeds _ _)

theorem writeStandDown_deeds (v : Bool) (s : State) : Deeds s (writeStandDown v s) :=
  (Deed.renights .hold (Act.inputs _).run (unmoved_of_parts rfl rfl)).run

theorem secondPasses_deeds (s : State) : Deeds s (secondPasses s) := by
  have tallied := forRails_apart (fun r u => u.modRail r Rail.tallySecond) (fun r u => modRail_apart u r _)
    { s with clock := s.clock.endSecond }
  exact (Deed.renights .window ((Act.clock _ endSecond_ok).run.trans (forList_acts _ tallySecond_acts _ _))
    (unmoved_of_parts tallied.carriers tallied.ports)).run

theorem idleTick_deeds (s : State) (h : s.clock.subTicks + 1 < 1000) : Deeds s (idleTick s) :=
  quiet_deeds (idleTick_acts s h) (Unmoved.quiet (unmoved_of_parts rfl rfl) rfl)

/-! ### Tenant requests -/

theorem surge_deeds (x : Site) (s : State) : Deeds s (surge x s) := by
  rw [surge]
  split
  · exact .refl
  · split
    · exact .refl
    · split
      · exact .refl
      · exact Shifts.deeds ((wakeCarrier_shifts _ .ordinary s).tail (holdoff_shift x _ _))

theorem reported_acts {n : Site} (util users : Nat) {s : State}
    (h : (s.carrier n).power = .active ∨ (s.carrier n).power = .offered ∨ (s.carrier n).power = .draining) :
    Acts s (reported n util users s) := by
  have written : reported n util users s = (takeReport n (reportLoad n util users s) s).modCarrier n
      fun c => { c with dwell := dwellAfter (s.carrier n) (reportClass n util users s) s.now } := by
    rw [takeReport, modCarrier_modCarrier]
    exact modCarrier_congr rfl
  rw [written]
  refine (Act.reports n _ h fun hc => newLoad_le (effectiveLoad_le _ util users) hc).run.trans (Act.dwell n _ ?_).run
  simpa [takeReport] using dwellAfter_eq (s.carrier n) (reportClass n util users s) s.now

theorem reported_change (n : Site) (util users : Nat) (s : State) : Change n s (reported n util users s) :=
  .modCarrier s n _ (fun _ => by rfl) (.same _)

theorem unqueue_reported_change (n : Site) (util users : Nat) (s : State) :
    Change n s (unqueue n (reported n util users s)) := by
  refine .of_record rfl rfl (fun m hm => (carrier_unqueue_ne _ hm).trans (carrier_modCarrier_ne s _ hm)) (.inr ?_)
    (fun _ => ?_) ?_
  · simp only [unqueue, carrier_reported_same]
    rfl
  · rw [carrier_unqueue_same, carrier_reported_same]; rfl
  · rw [carrier_unqueue_same, carrier_reported_same]; exact .same _

/-- The scheduler's part of a report: nothing that ripeness looks at has changed, or the carrier is re-evaluated, and
the dependents of a COVERAGE carrier that is fresh again with it (R53). -/
theorem scheduled_deeds {n : Site} (util users : Nat) {s : State}
    (h : (s.carrier n).power = .active ∨ (s.carrier n).power = .offered ∨ (s.carrier n).power = .draining) :
    Deeds s (scheduled n util users s) := by
  have acts := reported_acts util users h
  have fresh (hi : ((s.carrier n).load.isNone || (s.carrier n).stale) = false) :
      (s.carrier n).load.isSome = true ∧ (s.carrier n).stale = false := by
    obtain ⟨unseeded, stale⟩ := Bool.or_eq_false_iff.1 hi
    exact ⟨Option.isNone_eq_false_iff.1 unseeded, stale⟩
  rw [scheduled_eq]
  dsimp only
  split
  · split
    · rename_i hc
      simp only [Bool.and_eq_true, beq_iff_eq] at hc
      have role : ((reported n util users s).carrier n).role = .coverage := by rw [carrier_reported_same]; exact hc.1
      rw [reeval_of_not_ripe (not_ripe_of (.inl role))]
      refine (Deed.reanchors n (acts.trans (Eases.acts (Ease.leaves n).run)) (unqueue_reported_change n util users s)
        ?_ ?_).run
      · rw [carrier_unqueue_same]; exact role
      · rw [carrier_unqueue_same, carrier_reported_same]; exact id
    · rename_i hc
      refine (Deed.reconsiders n acts (reported_change n util users s) ?_).run
      cases hr : (s.carrier n).role with
      | capacity => exact .inl rfl
      | coverage =>
        refine .inr ?_
        rw [hr, beq_self_eq_true, Bool.true_and, Bool.not_eq_true] at hc
        have stale := (fresh hc).2
        rw [carrier_reported_same, Carrier.anchorage, Carrier.anchorage, stale]
        rfl
  · rename_i hc
    rw [Bool.not_eq_true, Bool.or_eq_false_iff, bne_eq_false_iff_eq] at hc
    obtain ⟨seeded, stale⟩ := fresh hc.1
    refine quiet_deeds acts (quiet_modCarrier s n _ ?_)
    rw [Carrier.standing, Carrier.standing, seeded, stale, Carrier.reported, hc.2]
    rfl

theorem report_deeds (n : Site) (util users : Nat) (s : State)
    (h : (s.carrier n).power = .active ∨ (s.carrier n).power = .offered ∨ (s.carrier n).power = .draining) :
    Deeds s (report n util users s) := by
  rw [report_eq]
  refine Relation.ReflTransGen.trans ?_ (ite_deeds _ fun _ => surge_deeds n _)
  exact (scheduled_deeds util users h).trans (ite_deeds _ fun _ => (withdraw_shifts n .busy _).deeds)

theorem loadRule_deeds (util users : Nat) (n : Site) (s : State) : Deeds s (loadRule util users n s).state := by
  rw [loadRule]
  split
  · rename_i h; exact report_deeds n util users s (.inl h)
  · rename_i h; exact report_deeds n util users s (.inr (.inl h))
  · rename_i h; exact report_deeds n util users s (.inr (.inr h))
  all_goals exact .refl

theorem acceptRule_deeds (token : Nat) (n : Site) (s : State) : Deeds s (acceptRule token n s).state := by
  rw [acceptRule]
  split
  · rename_i h
    simp only [Bool.and_eq_true, beq_iff_eq] at h
    refine (Change.shift_of_power (n := n) (Act.drains n h.1).run (.modCarrier s n _ (fun _ => by rfl) ?_) ?_
      (.inr (by simp [h.1]))).deeds
    · rw [h.1]; exact ⟨fun _ => rfl, fun _ => rfl⟩
    · rw [startDrain, carrier_modCarrier_same]; exact nofun
  · exact .refl

theorem declineRule_deeds (token : Nat) (n : Site) (s : State) : Deeds s (declineRule token n s).state := by
  rw [declineRule]
  split
  · rename_i h
    rw [Bool.and_eq_true] at h
    exact Shifts.deeds (.head (enterActive_shift n s (.inl h.1))
      ((leftDraining_shifts _ _ _).trans (dispatch_shifts _ _)))
  · exact .refl

theorem slept_shift (n : Site) (s : State) (h : (s.carrier n).power.inExchange = true) :
    Shift s ((s.modCarrier n Carrier.slept).withStack (n :: s.stack)) := by
  have same : ((s.modCarrier n Carrier.slept).withStack (n :: s.stack)).carrier n = (s.carrier n).slept :=
    carrier_modCarrier_same s n Carrier.slept
  refine Change.shift_of_power (n := n) (Act.sleeps n h).run (.of_record rfl rfl
    (fun m hm => carrier_modCarrier_ne s Carrier.slept hm) (.inl rfl) (fun _ => ?_) ?_) ?_ (.inr ?_)
  · rw [same]; rfl
  · rw [same]; exact ⟨fun _ => sleepward_of_inExchange h, nofun⟩
  · rw [same]; exact nofun
  · intro ha; rw [ha] at h; cases h

theorem drainedRule_deeds (token : Nat) (n : Site) (s : State) : Deeds s (drainedRule token n s).state := by
  rw [drainedRule]
  split
  · rename_i h
    rw [Bool.and_eq_true] at h
    change Deeds s (fallAsleep n s)
    rw [fallAsleep_eq]
    have falls (r : RailId) (u : State) : Shift u (needFalls r u) := railLoses_shift .active r u
    exact Shifts.deeds (.head (slept_shift n s h.1)
      (((endOfDrain_shifts _ _).trans (dispatch_shifts _ _)).tail (falls _ _)))
  · exact .refl

theorem wakeRule_deeds (n : Site) (s : State) : Deeds s (wakeRule n s).state := by
  rw [wakeRule]
  split
  · exact (wakeCarrier_shifts n .ordinary s).deeds
  · exact (withdraw_shifts n .busy s).deeds
  · exact (withdraw_shifts n .busy s).deeds
  all_goals exact .refl

theorem keepRule_deeds (n : Site) (s : State) : Deeds s (keepRule n s).state := by
  rw [keepRule]
  split
  · exact .refl
  · rename_i h
    exact addPin_deeds .tenant n s (by simpa using h)

theorem unkeepRule_deeds (n : Site) (s : State) : Deeds s (unkeepRule n s).state := by
  rw [unkeepRule]
  split
  · exact .refl
  · exact removePin_deeds .tenant n s

theorem faultRule_deeds (n : Site) (s : State) : Deeds s (faultRule n s).state := by
  rw [faultRule]
  split
  · rename_i h
    exact tenantFault_deeds n s h
  · exact .refl

theorem clearRule_deeds (n : Site) (s : State) : Deeds s (clearRule n s).state := by
  rw [clearRule]
  split
  · rename_i h
    exact enterWaking_deeds_of_faulted n .ordinary s ((clearable_iff s n).1 h).1
  · exact .refl

theorem post_deeds (t : Tenant) (x : Notice) (s : State) : Deeds s (post t x s) := (post_shift t x s).deeds

theorem handle_deeds (t : Tenant) (kind num unused : Nat) (silent : Bool) (rule : Site → State → Answer) (s : State)
    (h : ∀ n, Deeds s (rule n s).state) : Deeds s (handle t kind num unused silent rule s) := by
  rw [handle]
  split
  · exact post_deeds _ _ s
  · rename_i n _
    split
    · dsimp only
      split
      · exact h n
      · exact (h n).trans (post_deeds _ _ _)
    · exact post_deeds _ _ s

theorem handleRequest_deeds (i : Instr) (s : State) : Deeds s (handleRequest i s) := by
  rw [handleRequest.eq_def]
  split
  · exact handle_deeds _ _ _ _ _ _ s fun n => loadRule_deeds _ _ n s
  · exact handle_deeds _ _ _ _ _ _ s fun n => acceptRule_deeds _ n s
  · exact handle_deeds _ _ _ _ _ _ s fun n => declineRule_deeds _ n s
  · exact handle_deeds _ _ _ _ _ _ s fun n => drainedRule_deeds _ n s
  · exact handle_deeds _ _ _ _ _ _ s fun n => wakeRule_deeds n s
  · exact handle_deeds _ _ _ _ _ _ s fun n => keepRule_deeds n s
  · exact handle_deeds _ _ _ _ _ _ s fun n => unkeepRule_deeds n s
  · exact handle_deeds _ _ _ _ _ _ s fun n => faultRule_deeds n s
  · exact handle_deeds _ _ _ _ _ _ s fun n => clearRule_deeds n s
  · exact handle_deeds _ _ _ _ _ _ s fun _ => .refl
  · exact post_deeds _ _ s
  · exact .refl

theorem whenTaken_deeds (t : Tenant) (i : Instr) (s : State) : Deeds s (whenTaken t (handleRequest i) s) :=
  ite_deeds _ fun _ => handleRequest_deeds i s

theorem takeUpTo_deeds : ∀ (k : Nat) (t : Tenant) (s : State), Deeds s (takeUpTo k t s)
  | 0, _, _ => .refl
  | k + 1, t, s => by
    rw [takeUpTo]
    split
    · exact .refl
    · exact ite_deeds _ fun _ => ((port_deeds t _ s fun _ => by exact ⟨rfl, rfl⟩).trans (handleRequest_deeds _ _)).trans
        (takeUpTo_deeds k t _)

theorem takeRequests_deeds (t : Tenant) (s : State) : Deeds s (takeRequests t s) := takeUpTo_deeds _ t s

/-! ### Link supervision and the tenant ports -/

theorem enterLinked_deeds (t : Tenant) (s : State) : Deeds s (enterLinked t s) := by
  let linked := s.modPort t fun p => { p with link := .linked, windowTimer := startWindow p s.now }
  have port : (setLinkPins t false (fun _ => true) linked).port t =
      { s.port t with link := .linked, windowTimer := startWindow (s.port t) s.now } := by
    rw [port_setLinkPins, port_modPort_same]
  refine (Deed.links t ?_ ((atPort_modPort t _ s fun _ => id).trans (atPort_setLinkPins t false _ _)) ?_ ?_).run.trans
    (takeRequests_deeds t _)
  · exact (port_acts t _ s fun _ => by rfl).trans (setLinkPins_acts t false _ _ fun _ _ _ => rfl)
  · rw [port]
  · rw [port]

theorem enterSilent_cascade (t : Tenant) (state : LinkState) (s : State) :
    Cascade (silenced t state s) (enterSilent t state s) := by
  rw [enterSilent_eq]
  refine (Eases.moves (forList_eases _ (fun n u => ?_) allSites _)).cascade.trans (bulkWake_moves _ _ _).cascade
  split
  · exact withdraw_eases n .link u
  · exact .refl

theorem enterSilent_link (t : Tenant) (state : LinkState) (s : State) :
    ((enterSilent t state s).port t).link = state := by
  rw [(enterSilent_cascade t state s).link, port_silenced]

/-- A port that is not LINKED is written, its queue kept or emptied. -/
theorem restingPort_deeds {t : Tenant} {f : Port → Port} {s : State} (acts : Acts s (s.modPort t f))
    (link : ∀ p, (f p).link = p.link) (queue : ∀ p m, m ∈ (f p).offerQueue → m ∈ p.offerQueue)
    (h : (s.port t).link ≠ .linked) : Deeds s (s.modPort t f) :=
  (Deed.rests t acts (atPort_modPort t f s (queue _)) (by rw [port_modPort_same, link])
    (by rw [port_modPort_same, link]; exact h)).run

theorem writePort_deeds {t : Tenant} {window slots : Nat} {s : State} (hw : window = 0 ∨ 2 ≤ window ∧ window ≤ 60)
    (hs : 1 ≤ slots ∧ slots ≤ 4) (h : (s.port t).link ≠ .linked) : Deeds s (writePort t window slots s) :=
  restingPort_deeds (writePort_acts t window slots s hw hs) (fun _ => rfl) (fun _ _ => id) h

theorem enterDisabled_deeds (t : Tenant) (s : State) : Deeds s (enterDisabled t s) :=
  (Deed.silences t .disabled nofun).run.trans (restingPort_deeds
    (Act.port t Port.cleared (fun _ h => h) fun _ => .inr rfl).run (fun _ => rfl) (fun _ _ hm => by cases hm)
    (by rw [enterSilent_link]; exact nofun))

theorem setPortEffect_deeds (t : Tenant) (en : Bool) (window slots : Nat) (s : State)
    (hw : window = 0 ∨ 2 ≤ window ∧ window ≤ 60) (hs : 1 ≤ slots ∧ slots ≤ 4) :
    Deeds s (setPortEffect t en window slots s) := by
  rw [setPortEffect.eq_def]
  split
  · rename_i h
    exact writePort_deeds hw hs (by rw [beq_iff_eq.1 h]; exact nofun)
  · rename_i h
    exact (writePort_deeds hw hs (by rw [beq_iff_eq.1 h]; exact nofun)).trans (enterLinked_deeds t _)
  · exact .refl
  · refine (enterDisabled_deeds t s).trans (writePort_deeds hw hs ?_)
    rw [enterDisabled, port_modPort_same]
    change ((enterSilent t .disabled s).port t).link ≠ .linked
    rw [enterSilent_link]
    exact nofun

theorem setPortRule_deeds (tenant enabled window slots : Nat) (s : State) :
    Deeds s (setPortRule tenant enabled window slots s).1 := by
  rw [setPortRule]
  split
  · rename_i t en _ _
    dsimp only
    split
    · exact .refl
    · rename_i hr
      simp only [Bool.or_eq_true, decide_eq_true_eq, not_or] at hr
      split
      · exact .refl
      · exact setPortEffect_deeds t en window slots s (by omega) (by omega)
  · exact .refl

theorem linkWindowExpires_deeds (t : Tenant) (s : State) : Deeds s (linkWindowExpires t s) := by
  rw [linkWindowExpires]
  split
  · exact (Deed.silences t .lost nofun).run.trans (addAlert_deeds _ _)
  · exact port_deeds t _ s fun _ => ⟨rfl, rfl⟩

theorem ackAlertRule_deeds (count : Nat) (slots : List Nat) (s : State) : Deeds s (ackAlertRule count slots s).1 := by
  refine Apart.deeds ?_ (ackAlertRule_acts count slots s)
  rw [ackAlertRule]
  split <;> exact ⟨rfl, rfl, rfl, rfl⟩

theorem returnLatch_link (p : Port) : p.returnLatch.link = p.link := by
  rw [Port.returnLatch]
  split
  · rfl
  · split <;> rfl

theorem clockEdge_link (p : Port) (tdin : Bool) (now : Time) : (p.clockEdge tdin now).link = p.link := by
  rw [Port.clockEdge]
  split <;> rfl

theorem selectFalls_deeds (t : Tenant) (s : State) : Deeds s (selectFalls t s) :=
  port_deeds t _ s fun p => by
    split
    · exact ⟨rfl, rfl⟩
    · split <;> exact ⟨rfl, rfl⟩

theorem clockRises_deeds (t : Tenant) (tdin : Bool) (s : State) : Deeds s (clockRises t tdin s) :=
  port_deeds t _ s fun p => by
    split
    · exact ⟨rfl, rfl⟩
    · exact ⟨clockEdge_settings p tdin _, clockEdge_link p tdin _⟩

theorem stallExpires_deeds (t : Tenant) (s : State) : Deeds s (stallExpires t s) :=
  port_deeds t _ s fun p => by
    split
    · exact ⟨returnLatch_settings p, returnLatch_link p⟩
    · exact ⟨rfl, rfl⟩
    · exact ⟨rfl, rfl⟩

theorem deliver_deeds (t : Tenant) (s : State) : Deeds s (deliver t s) :=
  (port_deeds t _ s fun _ => by exact ⟨rfl, rfl⟩).trans (ite_deeds _ fun _ => takeRequests_deeds t _)

theorem linkHeard_deeds (t : Tenant) (s : State) : Deeds s (linkHeard t s) := by
  rw [linkHeard]
  split
  · exact port_deeds t _ s fun _ => ⟨rfl, rfl⟩
  · exact enterLinked_deeds t s
  · exact .refl

theorem arrive_deeds (t : Tenant) (q : Request) (s : State) : Deeds s (arrive t q s) := by
  rw [arrive]
  split
  · exact .refl
  · split
    · exact port_deeds t _ s fun _ => ⟨rfl, rfl⟩
    · exact (port_deeds t _ s fun _ => by exact ⟨rfl, rfl⟩).trans (addAlert_deeds _ _)

theorem frameKind_deeds (t : Tenant) (q : Request) (s : State) : Deeds s (frameKind t q s) := by
  rw [frameKind]
  split
  · exact .refl
  · split
    · exact port_deeds t _ s fun _ => ⟨rfl, rfl⟩
    · exact arrive_deeds t q s

theorem endTransfer_deeds (t : Tenant) (edges : Nat) (inb : BitVec 128) (s : State) :
    Deeds s (endTransfer t edges inb s) := by
  rw [endTransfer]
  refine (port_deeds t (fun p => { p with transfer := .idle, stallTimer := none }) s fun _ => ⟨rfl, rfl⟩).trans ?_
  split
  · exact port_deeds t _ _ fun p => ⟨returnLatch_settings p, returnLatch_link p⟩
  · refine (deliver_deeds t _).trans ?_
    split
    · exact ((linkHeard_deeds t _).trans (frameKind_deeds t _ _)).trans (takeRequests_deeds t _)
    · exact port_deeds t _ _ fun _ => ⟨rfl, rfl⟩

theorem selectRises_deeds (t : Tenant) (s : State) : Deeds s (selectRises t s) := by
  rw [selectRises]
  split
  · exact .refl
  · refine (port_deeds t (fun p => { p with tselHigh := true }) s fun _ => ⟨rfl, rfl⟩).trans ?_
    split
    · exact .refl
    · exact port_deeds t _ _ fun _ => ⟨rfl, rfl⟩
    · exact endTransfer_deeds t _ _ _

/-! ### The site port -/

theorem mgmt_deeds {s : State} {m : Mgmt} (h : MgmtOk s.mgmt → MgmtOk m) : Deeds s { s with mgmt := m } :=
  Apart.deeds ⟨rfl, rfl, rfl, rfl⟩ (Act.mgmt m h).run

theorem respond_deeds {s : State} {a : State × Response} (h : Deeds s a.1) : Deeds s (respond a) :=
  h.trans (mgmt_deeds fun ⟨ha, _⟩ => ⟨ha, Nat.zero_le _⟩)

theorem readRailRule_deeds (rail : Nat) (s : State) : Deeds s (readRailRule rail s).1 := by
  refine Apart.deeds ?_ (readRailRule_acts rail s)
  rw [readRailRule]
  split
  · exact .refl s
  · exact ⟨rfl, rfl, rfl, rfl⟩

theorem siteRule_deeds (i : Instr) (s : State) : Deeds s (siteRule i s).1 := by
  rw [siteRule.eq_def]
  split
  · exact setCarrierRule_deeds _ _ _ _ _ _ _ _ _ s
  · exact clearCarrierRule_deeds _ s
  · exact enableRule_deeds _ s
  · exact disableRule_deeds _ s
  · exact pinRule_deeds _ s
  · exact unpinRule_deeds _ s
  · exact setSlicesRule_deeds _ _ _ s
  · exact (setRailRule_apart _ _ _ _ _ s).deeds (setRailRule_acts _ _ _ _ _ s)
  · exact (setBiasRule_apart _ _ s).deeds (setBiasRule_acts _ _ s)
  · exact clearFaultCarrierRule_deeds _ s
  · exact clearFaultRailRule_deeds _ s
  · exact setWindowRule_deeds _ _ _ _ s
  · exact setTimeRule_deeds _ s
  · exact quiet_deeds (setDividerRule_acts _ s) (Unmoved.quiet (unmoved_of_parts rfl rfl) rfl)
  · exact setInputsRule_deeds _ _ _ s
  · exact setBankParamRule_deeds _ _ _ s
  · exact selectBankRule_deeds _ s
  · exact writeStandDown_deeds true s
  · exact writeStandDown_deeds false s
  · exact setPortRule_deeds _ _ _ _ s
  · exact ackAlertRule_deeds _ _ s
  · exact (clearTallyRule_apart _ s).deeds (clearTallyRule_acts _ s)
  · rw [(readRule_state s).1]
  · exact readRailRule_deeds _ s
  · rw [(readRule_state s).2]
  all_goals exact .refl

theorem processRecord_deeds (bytes : List Byte) (s : State) : Deeds s (processRecord bytes s) := by
  rw [processRecord]
  split
  · exact .refl
  · exact respond_deeds (siteRule_deeds _ s)

theorem endWrite_deeds (s : State) : Deeds s (endWrite s) := by
  rw [endWrite]
  split
  · exact processRecord_deeds _ s
  all_goals exact .refl

theorem startCondition_deeds (address : Nat) (read : Bool) (s : State) : Deeds s (startCondition address read s) :=
  (endWrite_deeds s).trans (mgmt_deeds (addressed_ok address read))

theorem stopCondition_deeds (s : State) : Deeds s (stopCondition s) :=
  (endWrite_deeds s).trans (mgmt_deeds fun ⟨ha, _⟩ => ⟨ha, Nat.zero_le _⟩)

theorem powerOnReset_deeds (addr : Nat) (s : State) : Deeds s (powerOnReset addr s) := by
  rw [powerOnReset_eq]
  exact ((Deed.resets addr).run.trans (recheckLine_deeds _ _)).trans (recheckLine_deeds _ _)

/-! ### Every command -/

/-- A site request's command answers with its rule. -/
theorem siteRequest_deeds (i : Instr) {s t : State}
    (h : (.next (respond (siteRule i s)) : Host.Outcome State Fault Refusal) = .next t) : Deeds s t := by
  cases h; exact respond_deeds (siteRule_deeds i s)

/-- A tenant request's command is taken or changes nothing. -/
theorem tenantRequest_deeds (t : Tenant) (i : Instr) {s u : State}
    (h : (.next (whenTaken t (handleRequest i) s) : Host.Outcome State Fault Refusal) = .next u) : Deeds s u := by
  cases h; exact whenTaken_deeds t i s

theorem exec_deeds {i : Instr} {s t : State} (h : exec i s = .next t) : Deeds s t := by
  cases i with
  | powerOnReset addr => cases h; exact powerOnReset_deeds addr s
  | malformedSiteRecord bytes => cases h; exact processRecord_deeds bytes s
  | busTimeout => cases h; exact ite_deeds _ fun _ => mgmt_deeds abandon_ok
  | transferStart t => cases h; exact selectFalls_deeds t s
  | stallTimeout t => cases h; exact ite_deeds _ fun _ => stallExpires_deeds t s
  | frameEnd t => cases h; exact selectRises_deeds t s
  | load t num util users unused => exact tenantRequest_deeds t (.load t num util users unused) h
  | accept t num token unused => exact tenantRequest_deeds t (.accept t num token unused) h
  | decline t num token unused => exact tenantRequest_deeds t (.decline t num token unused) h
  | drained t num token unused => exact tenantRequest_deeds t (.drained t num token unused) h
  | wake t num unused => exact tenantRequest_deeds t (.wake t num unused) h
  | keep t num unused => exact tenantRequest_deeds t (.keep t num unused) h
  | unkeep t num unused => exact tenantRequest_deeds t (.unkeep t num unused) h
  | fault t num unused => exact tenantRequest_deeds t (.fault t num unused) h
  | clear t num unused => exact tenantRequest_deeds t (.clear t num unused) h
  | query t num unused => exact tenantRequest_deeds t (.query t num unused) h
  | unknownTenantRequest t kind num => exact tenantRequest_deeds t (.unknownTenantRequest t kind num) h
  | linkWindowExpiry t => cases h; exact ite_deeds _ fun _ => linkWindowExpires_deeds t s
  | staleTimerExpiry n => cases h; exact ite_deeds _ fun _ => staleExpires_deeds n s
  | answerTimerExpiry n => cases h; exact ite_deeds _ fun _ => answerExpires_deeds n s
  | drainTimerExpiry n => cases h; exact ite_deeds _ fun _ => drainExpires_deeds n s
  | dwellElapses n => cases h; exact ite_deeds _ fun _ => dwellElapses_deeds n s
  | minAwakePasses n => cases h; exact ite_deeds _ fun _ => minAwakePasses_deeds n s
  | surgeHoldoffEnds n => cases h; exact ite_deeds _ fun _ => (holdoff_shift n none s).deeds
  | graceExpiry r => cases h; exact ite_deeds _ fun _ => graceExpires_deeds r s
  | settleExpiry r level => cases h; exact ite_deeds _ fun _ => settleExpires_deeds r level s
  | retryWaitExpiry r =>
    cases h; exact ite_deeds _ fun _ => (retryExpires_apart r s).deeds (retryExpires_acts r s)
  | secondsEvent => cases h; exact secondPasses_deeds s
  | inputLevelChange line level => cases h; exact (line_deeds line _ s (by rfl)).trans (recheckLine_deeds line _)
  | debounceExpiry line => cases h; exact ite_deeds _ fun _ => debounceExpires_deeds line s
  | powerGoodFall r => cases h; exact powerFalls_deeds r s
  | tclkRisingEdge t tdin => cases h; exact clockRises_deeds t tdin s
  | i2cStartCondition address read => cases h; exact startCondition_deeds address read s
  | i2cStopCondition => cases h; exact stopCondition_deeds s
  | i2cDataByte byte ack => cases h; exact mgmt_deeds (dataByte_ok byte ack)
  | sclEdge rising => cases h; exact mgmt_deeds (sclEdge_ok rising s.now)
  | setCarrier n owner role rail count a0 a1 a2 trim =>
    exact siteRequest_deeds (.setCarrier n owner role rail count a0 a1 a2 trim) h
  | clearCarrier n => exact siteRequest_deeds (.clearCarrier n) h
  | enable n => exact siteRequest_deeds (.enable n) h
  | disable n => exact siteRequest_deeds (.disable n) h
  | pin n => exact siteRequest_deeds (.pin n) h
  | unpin n => exact siteRequest_deeds (.unpin n) h
  | setSlices t p q => exact siteRequest_deeds (.setSlices t p q) h
  | setRail r i b f d => exact siteRequest_deeds (.setRail r i b f d) h
  | setBias r c => exact siteRequest_deeds (.setBias r c) h
  | clearFaultCarrier n => exact siteRequest_deeds (.clearFaultCarrier n) h
  | clearFaultRail r => exact siteRequest_deeds (.clearFaultRail r) h
  | setWindow w e x y => exact siteRequest_deeds (.setWindow w e x y) h
  | setTime tod => exact siteRequest_deeds (.setTime tod) h
  | setDivider d => exact siteRequest_deeds (.setDivider d) h
  | setInputs p q d => exact siteRequest_deeds (.setInputs p q d) h
  | setBankParam b p v => exact siteRequest_deeds (.setBankParam b p v) h
  | selectBank m => exact siteRequest_deeds (.selectBank m) h
  | standDown => exact siteRequest_deeds .standDown h
  | resume => exact siteRequest_deeds .resume h
  | setPort t e w d => exact siteRequest_deeds (.setPort t e w d) h
  | ackAlert c slots => exact siteRequest_deeds (.ackAlert c slots) h
  | clearTally r => exact siteRequest_deeds (.clearTally r) h
  | readCarrier n => exact siteRequest_deeds (.readCarrier n) h
  | readRail r => exact siteRequest_deeds (.readRail r) h
  | readTenant t => exact siteRequest_deeds (.readTenant t) h
  | readSite => exact siteRequest_deeds .readSite h
  | readTally => exact siteRequest_deeds .readTally h

theorem countRead_deeds (i : Instr) (s : State) : Deeds s (countRead i s) := by
  refine Apart.deeds ?_ (countRead_acts i s)
  rw [countRead.eq_def]
  split <;> exact ⟨rfl, rfl, rfl, rfl⟩

theorem step_deeds {s t : State} (h : step s = .next t) : Deeds s t := by
  rw [step] at h
  split at h
  · rename_i rest _
    have taken : Deeds s { s with pending := rest } := Apart.deeds ⟨rfl, rfl, rfl, rfl⟩ (Act.pending _).run
    exact taken.trans (exec_deeds h)
  · split at h
    · exact (countRead_deeds _ s).trans (exec_deeds h)
    · rename_i hidle
      cases h
      exact idleTick_deeds s (subTicks_of_idleCommand_none hidle)

/-! ### The laws -/

/-- Settles O54: a step is a run of deeds; a shift takes no offer out beyond the slots and gives a tenant without ripe
carriers nothing, and a tenant that goes silent is swept. -/
theorem stepKeepsDrainSlots : Obligations.StepKeepsDrainSlots :=
  fun _ _ hc h hstep => (step_deeds hstep).keeps (fun _ _ hc d h => d.keeps_slotsOk hc h) hc h

/-- Settles O55: without night no carrier is ripe, so shifts give nobody an offer, and the end of night sweeps all. -/
theorem stepKeepsNight : Obligations.StepKeepsNight :=
  fun _ _ hc h hstep => (step_deeds hstep).keeps (fun _ _ hc d h => d.keeps_nightOk hc h) hc h

/-- Settles O56: shifts keep what anchors are worth, and an anchor that leaves ACTIVE has its dependents restored. -/
theorem stepKeepsCoverage : Obligations.StepKeepsCoverage :=
  fun _ _ hc ha h hstep => (step_deeds hstep).keeps_of_anchors (fun _ _ hc ha d h => d.keeps_coverageOk hc ha h) hc ha h

/-- Settles O60: a shift keeps every carrier right, and each deed re-evaluates the carriers whose ripeness its change
can have touched. -/
theorem stepKeepsRipeness : Obligations.StepKeepsRipeness :=
  fun _ _ hc ha h hstep => (step_deeds hstep).keeps_of_anchors (fun _ _ hc ha d h => d.keeps_ripeOk hc ha h) hc ha h

end Sys2Proof.Machine
end

/-! # Windows and the night condition -/

section

namespace Sys2Proof.Machine

theorem contains_iff (w : Window) (t : Nat) : w.contains t = true ↔
    (w.start < w.stop ∧ w.start ≤ t / 60 ∧ t / 60 < w.stop) ∨
    (w.stop < w.start ∧ (w.start ≤ t / 60 ∨ t / 60 < w.stop)) := by
  rw [Window.contains]
  split
  · simp only [Bool.and_eq_true, decide_eq_true_eq]; omega
  · split
    · simp only [Bool.or_eq_true, decide_eq_true_eq]; omega
    · simp only [Bool.false_eq_true, false_iff]; omega

theorem remaining_of_inside {w : Window} {t : Nat} (he : w.enabled = true) (hc : w.contains t = true) :
    w.remaining t = (60 * w.stop + 86400 - t) % 86400 := by
  rw [Window.remaining, he, hc]; rfl

theorem remaining_of_outside {w : Window} {t : Nat} (h : w.enabled = false ∨ w.contains t = false) :
    w.remaining t = 0 := by
  obtain h | h := h <;> rw [Window.remaining, h] <;> simp

/-- Inside an enabled window at least a second is left, and at most all but a minute of the day. -/
theorem remaining_bounds {w : Window} {t : Nat} (he : w.enabled = true) (hc : w.contains t = true) (ht : t < 86400)
    (hs : w.stop ≤ 1439) : 1 ≤ w.remaining t ∧ w.remaining t ≤ 86340 := by
  rw [remaining_of_inside he hc]
  rw [contains_iff] at hc
  omega

theorem remaining_pos_iff {w : Window} {t : Nat} (ht : t < 86400) (hs : w.stop ≤ 1439) :
    1 ≤ w.remaining t ↔ w.enabled = true ∧ w.contains t = true := by
  refine ⟨fun h => ?_, fun ⟨he, hc⟩ => (remaining_bounds he hc ht hs).1⟩
  by_contra hn
  rw [not_and_or, Bool.not_eq_true, Bool.not_eq_true] at hn
  rw [remaining_of_outside hn] at h
  cases h

theorem remaining_le {w : Window} {t : Nat} (ht : t < 86400) (hs : w.stop ≤ 1439) : w.remaining t ≤ 86340 := by
  by_cases h : 1 ≤ w.remaining t
  · obtain ⟨he, hc⟩ := (remaining_pos_iff ht hs).1 h
    exact (remaining_bounds he hc ht hs).2
  · omega

/-- The clock is valid and its time of day is inside an enabled window. -/
def NightTime (s : State) : Prop :=
  s.clock.valid = true ∧
    ∃ w : Fin 2, s.clock.windows[w].enabled = true ∧ s.clock.windows[w].contains s.clock.tod = true

theorem night_iff_nightTime (s : State) : night s = true ↔ NightTime s ∧ siteHold s = false := by
  simp only [night, NightTime, Fin.exists_fin_two, Bool.and_eq_true, Bool.or_eq_true, Bool.not_eq_true']
  rfl

theorem one_le_remaining_iff {s : State} (ht : s.clock.tod < 86400)
    (hw : ∀ w : Fin 2, s.clock.windows[w].stop ≤ 1439) : 1 ≤ remaining s ↔ NightTime s := by
  have first := remaining_pos_iff ht (hw 0)
  have second := remaining_pos_iff ht (hw 1)
  rw [remaining, NightTime, Fin.exists_fin_two, ← first, ← second]
  split
  · rename_i hv; simp [hv]
  · rename_i hv; simp [hv]

theorem siteRemaining_le {s : State} (ht : s.clock.tod < 86400)
    (hw : ∀ w : Fin 2, s.clock.windows[w].stop ≤ 1439) : remaining s ≤ 86340 := by
  rw [remaining]
  split
  · exact max_le (remaining_le ht (hw 0)) (remaining_le ht (hw 1))
  · exact Nat.zero_le _

/-- Settles O21: the window arithmetic, then R over the two windows. -/
theorem windowsAndNight : Obligations.WindowsAndNight := by
  refine ⟨contains_iff, fun w t he hc ht hs => ?_, fun w t => remaining_of_outside, fun s hs => ?_⟩
  · rw [remaining_of_inside he hc]; omega
  · obtain ⟨-, windows, tod, -⟩ := hs
    have stop (w : Fin 2) : s.clock.windows[w].stop ≤ 1439 := (windows w).2
    have positive := one_le_remaining_iff tod stop
    exact ⟨siteRemaining_le tod stop, rfl, positive, by rw [positive, night_iff_nightTime]⟩

end Sys2Proof.Machine
end

/-! # Re-evaluation of ripeness, case by case -/

section

namespace Sys2Proof.Machine

theorem modPort_eq_self {s : State} {t : Tenant} {f : Port → Port} (h : f (s.port t) = s.port t) :
    s.modPort t f = s := by
  have kept : s.ports.set t (s.ports.get t) = s.ports := by cases t <;> rfl
  rw [State.modPort]
  change { s with ports := s.ports.set t (f (s.port t)) } = s
  rw [h]
  exact congrArg (fun p => { s with ports := p }) kept

theorem dispatch_of_empty {t : Tenant} {s : State} (h : (s.port t).offerQueue = []) : dispatch t s = s := by
  rw [dispatch, h]; rfl

theorem dispatch_of_full {t : Tenant} {s : State} (h : (s.port t).drainSlots ≤ outstanding s t) : dispatch t s = s := by
  rw [dispatch]
  cases hq : (s.port t).offerQueue with
  | nil => rfl
  | cons n rest =>
    rw [List.length_cons, dispatchUpTo]
    simp only [hq]
    rw [if_neg (Nat.not_lt.2 h)]

theorem dispatch_of_alone {t : Tenant} {n : Site} {s : State} (h : (s.port t).offerQueue = [n])
    (free : outstanding s t < (s.port t).drainSlots) :
    dispatch t s = issueOffer n (s.modPort t fun p => { p with offerQueue := [] }) := by
  rw [dispatch, h, List.length_singleton, dispatchUpTo]
  simp only [h]
  rw [if_pos free]
  rfl

theorem outstanding_joinQueue (n : Site) (s : State) (t : Tenant) :
    outstanding (joinQueue n s) t = outstanding s t := by
  rw [outstanding_eq, outstanding_eq]
  refine List.countP_congr fun m _ => ?_
  rw [carrier_joinQueue]
  split
  · rename_i h; rw [h]; rfl
  · rfl

theorem port_joinQueue_same (n : Site) (s : State) : (joinQueue n s).port (s.carrier n).owner =
    { s.port (s.carrier n).owner with offerQueue := (s.port (s.carrier n).owner).offerQueue ++ [n] } := by
  rw [joinQueue, port_modCarrier, port_modPort_same]

/-- A carrier that joins an empty queue and leaves it again has only its ripe time written. -/
theorem joinQueue_cleared {n : Site} {s : State} (h : (s.port (s.carrier n).owner).offerQueue = []) :
    ((joinQueue n s).modPort (s.carrier n).owner fun p => { p with offerQueue := [] }) =
      s.modCarrier n fun c => { c with ripeTime := some s.now } := by
  rw [joinQueue, modPort_modCarrier, modPort_modPort]
  refine congrArg (fun u : State => u.modCarrier n fun c => { c with ripeTime := some s.now }) ?_
  refine modPort_eq_self ?_
  rw [← h]

theorem issueOffer_eq (n : Site) (s : State) : issueOffer n s =
    post (s.carrier n).owner (.offer n (noticeNumber s n) ((s.carrier n).token + 1))
      (s.modCarrier n fun c => c.offeredNow s) := by
  have number := noticeNumber_cascade (cascade_modCarrier s n (fun c => c.offeredNow s) fun _ => by rfl) n
  rw [← number]
  simp only [issueOffer, carrier_modCarrier_same]
  rfl

theorem issueOffer_joined (n : Site) (s : State) :
    issueOffer n (s.modCarrier n fun c => { c with ripeTime := some s.now }) =
      post (s.carrier n).owner (.offer n (noticeNumber s n) ((s.carrier n).token + 1)) (s.modCarrier n fun c =>
        { c with
          token := c.token + 1, power := .offered, dwell := .absent, ripeTime := none,
          answerTimer := some s.now }) := by
  rw [issueOffer_eq, modCarrier_modCarrier, carrier_modCarrier_same,
    noticeNumber_cascade (cascade_modCarrier s n _ fun _ => by rfl)]
  rfl

/-- Settles O14, by the cases of the re-evaluation. -/
theorem ripeCarriersAreOffered : Obligations.RipeCarriersAreOffered := by
  intro n s
  refine ⟨reeval_of_not_ripe, fun hr hq => ?_, fun hr hq full => ?_, fun hr empty free => ?_⟩
  · rw [reeval_of_queued hr hq]
  · rw [reeval_of_unqueued hr hq, dispatch_of_full]
    · rfl
    · rw [outstanding_joinQueue, port_joinQueue_same]; exact full
  · have alone : ((joinQueue n s).port (s.carrier n).owner).offerQueue = [n] := by
      rw [port_joinQueue_same, empty]; rfl
    rw [reeval_of_unqueued hr (by rw [empty]; exact List.not_mem_nil), dispatch_of_alone alone, joinQueue_cleared empty,
      issueOffer_joined]
    rw [outstanding_joinQueue, port_joinQueue_same]; exact free

end Sys2Proof.Machine
end

/-! # Entries to WAKING, by the state of the rail -/

section

namespace Sys2Proof.Machine

/-! ### Entries to ACTIVE -/

theorem startMinAwake_eq (s : State) (role : Role) : startMinAwake s role = freshMinAwake s role := by
  cases role <;> rfl

theorem enterActive_eq (n : Site) (s : State) : enterActive n s =
    (s.modPort (s.carrier n).owner fun p => { p with offerQueue := p.offerQueue.filter (· != n) }).modCarrier n
      fun c => c.returned s := by
  rw [enterActive, unqueue, carrier_modCarrier_same, modPort_modCarrier, modCarrier_modCarrier]
  refine modCarrier_congr ?_
  dsimp only
  rw [startMinAwake_eq]
  rfl

theorem powered_of_capacity {n : Site} {s : State} (h : (s.carrier n).role = .capacity) :
    powered n s = post (s.carrier n).owner (.powered n (noticeNumber s n)) (enterActive n s) := by
  simp only [powered, h, carrier_enterActive_same, noticeNumber_cascade (enterActive_cascade n s)]
  rfl

theorem powered_of_coverage {n : Site} {s : State} (h : (s.carrier n).role = .coverage) : powered n s =
    reevalDependents n (post (s.carrier n).owner (.powered n (noticeNumber s n)) (enterActive n s)) := by
  simp only [powered, h, carrier_enterActive_same, noticeNumber_cascade (enterActive_cascade n s)]
  rfl

/-- A carrier has passed through WAKING to ACTIVE. -/
def risen (n : Site) (s : State) : State :=
  (s.modPort (s.carrier n).owner fun p => { p with offerQueue := p.offerQueue.filter (· != n) }).modCarrier n
    fun c => { c.returned s with cause := none }

/-- The record of a carrier that enters WAKING. -/
def Carrier.rising (c : Carrier) : Carrier := { c with power := .waking, cause := none }

theorem enterActive_rising (n : Site) (s : State) : enterActive n (s.modCarrier n Carrier.rising) = risen n s := by
  rw [enterActive_eq, carrier_modCarrier_same, modPort_modCarrier, modCarrier_modCarrier]
  rfl

theorem noticeNumber_rising (n : Site) (s : State) :
    noticeNumber (s.modCarrier n Carrier.rising) n = noticeNumber s n :=
  noticeNumber_cascade (cascade_modCarrier s n _ fun _ => by rfl) n

/-- The record of a rail that returns from HOLD to ON (R109). -/
def Rail.unheld (x : Rail) : Rail := { x with state := .on, graceTimer := none, held := false }

theorem enterWaking_of_on {n : Site} {cls : RampClass} {s : State} (h : (s.rail (s.carrier n).rail).state = .on) :
    enterWaking n cls s = powered n (s.modCarrier n Carrier.rising) := by
  rw [enterWaking, h]; rfl

theorem enterWaking_of_hold {n : Site} {cls : RampClass} {s : State} (h : (s.rail (s.carrier n).rail).state = .hold) :
    enterWaking n cls s = powered n ((s.modCarrier n Carrier.rising).modRail (s.carrier n).rail Rail.unheld) := by
  rw [enterWaking, h]; rfl

/-- The state in which a carrier met a rail in ON, its POWERED notice posted. -/
def toldPowered (n : Site) (s : State) : State :=
  post (s.carrier n).owner (.powered n (noticeNumber s n)) (risen n s)

/-- The state in which a carrier met a rail in HOLD, its POWERED notice posted. -/
def toldUnheld (n : Site) (s : State) : State :=
  post (s.carrier n).owner (.powered n (noticeNumber s n)) ((risen n s).modRail (s.carrier n).rail Rail.unheld)

theorem told_rising (n : Site) (s : State) :
    post ((s.modCarrier n Carrier.rising).carrier n).owner (.powered n (noticeNumber (s.modCarrier n Carrier.rising) n))
      (enterActive n (s.modCarrier n Carrier.rising)) = toldPowered n s := by
  rw [enterActive_rising, noticeNumber_rising, carrier_modCarrier_same]
  rfl

theorem told_rising_unheld (n : Site) (s : State) :
    let v := (s.modCarrier n Carrier.rising).modRail (s.carrier n).rail Rail.unheld
    post (v.carrier n).owner (.powered n (noticeNumber v n)) (enterActive n v) = toldUnheld n s := by
  have active (u : State) (r : RailId) : enterActive n (u.modRail r Rail.unheld) =
    (enterActive n u).modRail r Rail.unheld := rfl
  have number (u : State) (r : RailId) : noticeNumber (u.modRail r Rail.unheld) n = noticeNumber u n := rfl
  intro v
  rw [active, number, enterActive_rising, noticeNumber_rising, carrier_modRail, carrier_modCarrier_same]
  rfl

theorem enterWaking_of_powered {n : Site} {cls : RampClass} {s : State}
    (h : (s.rail (s.carrier n).rail).state = .on) :
    ((s.carrier n).role = .capacity → enterWaking n cls s = toldPowered n s) ∧
    ((s.carrier n).role = .coverage → enterWaking n cls s = reevalDependents n (toldPowered n s)) := by
  have role : ((s.modCarrier n Carrier.rising).carrier n).role = (s.carrier n).role := by
    rw [carrier_modCarrier_same]; rfl
  rw [enterWaking_of_on h, ← told_rising]
  exact ⟨fun hr => powered_of_capacity (role.trans hr), fun hr => powered_of_coverage (role.trans hr)⟩

theorem enterWaking_of_held {n : Site} {cls : RampClass} {s : State}
    (h : (s.rail (s.carrier n).rail).state = .hold) :
    ((s.carrier n).role = .capacity → enterWaking n cls s = toldUnheld n s) ∧
    ((s.carrier n).role = .coverage → enterWaking n cls s = reevalDependents n (toldUnheld n s)) := by
  have role : ((s.modCarrier n Carrier.rising).carrier n).role = (s.carrier n).role := by
    rw [carrier_modCarrier_same]; rfl
  rw [enterWaking_of_hold h, ← told_rising_unheld]
  exact ⟨fun hr => powered_of_capacity (role.trans hr), fun hr => powered_of_coverage (role.trans hr)⟩

theorem enterWaking_of_waiting {n : Site} {cls : RampClass} {s : State}
    (h : (s.rail (s.carrier n).rail).state = .ramping ∨ (s.rail (s.carrier n).rail).state = .retryWait) :
    enterWaking n cls s = s.modCarrier n Carrier.rising := by
  rw [enterWaking]
  obtain h | h := h <;> rw [h] <;> rfl

theorem enterWaking_of_fault {n : Site} {cls : RampClass} {s : State}
    (h : (s.rail (s.carrier n).rail).state = .fault) : enterWaking n cls s =
      post (s.carrier n).owner (.faulted n (noticeNumber s n))
        (s.modCarrier n fun c => { c with power := .faulted, cause := some .rail }) := by
  rw [enterWaking, h]
  simp only [faultedOnRail, modCarrier_modCarrier, carrier_modCarrier_same]
  rw [noticeNumber_cascade (cascade_modCarrier s n _ fun _ => by rfl)]

/-! ### The ramp queue -/

theorem grant_of_held {s : State} (h : s.ramp.slot ≠ none) : grant s = s := by
  rcases grant_cases s with ⟨_, _, free, -, -⟩ | ⟨same, -⟩
  · exact absurd free h
  · exact same

theorem queueRail_of_held {r : RailId} {cls : RampClass} {s : State} (h : s.ramp.slot ≠ none) :
    queueRail r cls s = joinRamp r cls (s.modRail r fun x => { x with state := .queued }) := by
  rw [queueRail, grant_of_held]
  cases cls <;> exact h

/-- With an empty ramp queue and a free slot, a rail that joins is granted the slot. -/
theorem queueRail_of_idle {r : RailId} {cls : RampClass} {s : State} (h : s.ramp = ⟨[], [], none⟩) :
    queueRail r cls s = grantTo r (joinRamp r cls (s.modRail r fun x => { x with state := .queued })) := by
  rw [queueRail, grant]
  cases cls <;> simp [joinRamp, h, Ramp.queue]

theorem grantTo_state (r : RailId) (s : State) : ((grantTo r s).rail r).state = .ramping := by
  simp [grantTo, State.rail, State.modRail]

theorem grantTo_rail_ne {r q : RailId} (s : State) (h : q ≠ r) : (grantTo r s).rail q = s.rail q := by
  simp only [grantTo, leaveRamp, State.rail, State.modRail]
  exact Vector.getElem_set_ne _ _ fun hr => h (Fin.ext hr.symm)

theorem rails_joinRamp (r : RailId) (cls : RampClass) (s : State) : (joinRamp r cls s).rails = s.rails := by
  cases cls <;> rfl

theorem rail_joinRamp (r q : RailId) (cls : RampClass) (s : State) : (joinRamp r cls s).rail q = s.rail q := by
  rw [State.rail, rails_joinRamp]; rfl

theorem carriers_joinRamp (r : RailId) (cls : RampClass) (s : State) : (joinRamp r cls s).carriers = s.carriers := by
  cases cls <;> rfl

theorem raiseRail_of_low {r : RailId} {cls : RampClass} {s : State} (h : cls = .ordinary ∨ r ∉ s.ramp.ordinary) :
    raiseRail r cls s = s := by
  cases cls with
  | ordinary => rfl
  | urgent =>
    have out : r ∉ s.ramp.ordinary := h.resolve_left nofun
    simp [raiseRail, out]

theorem raiseRail_of_ordinary {r : RailId} {s : State} (h : r ∈ s.ramp.ordinary) : raiseRail r .urgent s =
    { s with ramp := ⟨s.ramp.urgent.filter (· != r) ++ [r], s.ramp.ordinary.filter (· != r), s.ramp.slot⟩ } := by
  simp only [raiseRail, List.contains_iff_mem.2 h, if_true]
  rfl

/-- The rail that is granted the slot at once: RAMPING, its ramp counted, the queue empty again (R116). -/
theorem queueRail_idle {r : RailId} {cls : RampClass} {s : State} (h : s.ramp = ⟨[], [], none⟩) :
    (queueRail r cls s).carriers = s.carriers ∧ (queueRail r cls s).ramp = ⟨[], [], some r⟩ ∧
      ((queueRail r cls s).rail r).state = .ramping ∧
      ((queueRail r cls s).rail r).rampCount = satSucc Config.tallyMax (s.rail r).rampCount ∧
      ∀ q, q ≠ r → (queueRail r cls s).rail q = s.rail q := by
  rw [queueRail_of_idle h]
  refine ⟨carriers_joinRamp _ _ _, ?_, grantTo_state _ _, ?_, fun q hq => ?_⟩
  · cases cls <;> simp [grantTo, leaveRamp, joinRamp, h]
  · rw [grantTo_rampCount, if_pos rfl, rail_joinRamp, rail_modRail_same]
  · rw [grantTo_rail_ne _ hq, rail_joinRamp, rail_modRail_ne s _ hq]

theorem satSucc_eq_min (top v : Nat) : satSucc top v = min (v + 1) (max top v) := by
  rw [satSucc]
  split <;> omega

theorem enterWaking_of_off {n : Site} {cls : RampClass} {s : State} (h : (s.rail (s.carrier n).rail).state = .off) :
    enterWaking n cls s = queueRail (s.carrier n).rail cls (s.modCarrier n Carrier.rising) := by
  rw [enterWaking, h]; rfl

theorem enterWaking_of_queued {n : Site} {cls : RampClass} {s : State}
    (h : (s.rail (s.carrier n).rail).state = .queued) :
    enterWaking n cls s = raiseRail (s.carrier n).rail cls (s.modCarrier n Carrier.rising) := by
  rw [enterWaking, h]; rfl

/-! ### Dependents that stand in their queues -/

/-- A carrier that is ripe stands in its owner's queue. -/
def Waits (m : Site) (s : State) : Prop := ripe s m = true → m ∈ (s.port (s.carrier m).owner).offerQueue

theorem SchedulerMove.ripe_before {s t : State} (h : SchedulerMove s t) {m : Site} (hr : ripe t m = true) :
    ripe s m = true := by
  by_contra hn
  have cascade := h.cascade
  have link : (t.port (s.carrier m).owner).link = (s.port (s.carrier m).owner).link := cascade.link _
  have night : Machine.night t = Machine.night s := cascade.night
  have fit : someAnchorFit s m = true := by
    by_contra hf
    rw [Bool.not_eq_true] at hf
    have := (ripe_conditions hr).2.2
    rw [h.keeps_unfit hf] at this
    cases this
  rcases h.record m with ⟨r, -, hm⟩ | ⟨-, hm⟩
  · refine hn ?_
    simp only [ripe, hm, link, night, Bool.and_eq_true] at hr ⊢
    exact ⟨hr.1, fit⟩
  · rw [not_ripe_of_power (by rw [hm]; exact nofun)] at hr
    cases hr

theorem SchedulerMove.keeps_waits {s t : State} (h : SchedulerMove s t) {m : Site} (hw : Waits m s)
    (stays : m ∈ (s.port (s.carrier m).owner).offerQueue → (t.carrier m).power = .active →
      m ∈ (t.port (s.carrier m).owner).offerQueue) : Waits m t := by
  intro hr
  have active : (t.carrier m).power = .active := by
    by_contra hp
    rw [not_ripe_of_power hp] at hr
    cases hr
  rw [h.cascade.owner]
  exact stays (hw (h.ripe_before hr)) active

theorem waits_offers {s : State} {t : Tenant} {n m : Site} {rest : List Site} (hq : (s.port t).offerQueue = n :: rest)
    (h : Waits m s) : Waits m (issueOffer n (s.modPort t fun p => { p with offerQueue := rest })) := by
  refine (SchedulerMove.offers t n rest hq).keeps_waits h fun queued active => ?_
  by_cases hm : m = n
  · rw [carrier_issueOffer, if_pos hm] at active
    cases active
  · exact (mem_offerQueue_offers hq hm).2 queued

theorem waits_dispatchUpTo {m : Site} : ∀ (k : Nat) (t : Tenant) (s : State), Waits m s → Waits m (dispatchUpTo k t s)
  | 0, _, _, h => h
  | k + 1, t, s, h => by
    rw [dispatchUpTo]
    split
    · exact h
    · rename_i n rest hq
      split
      · exact waits_dispatchUpTo k t _ (waits_offers hq h)
      · exact h

theorem mem_joinQueue_of_mem {s : State} {n m : Site} {u : Tenant} (h : m ∈ (s.port u).offerQueue) :
    m ∈ ((joinQueue n s).port u).offerQueue := by
  rw [offerQueue_joinQueue]
  split
  · exact List.mem_append_left _ h
  · exact h

/-- Re-evaluation of any carrier keeps a ripe one in its queue. -/
theorem waits_reeval {m n : Site} {s : State} (h : Waits m s) : Waits m (reeval n s) := by
  rcases reeval_cases n s with ⟨hr, e⟩ | ⟨-, -, e⟩ | ⟨hr, -, e⟩ <;> rw [e]
  · by_cases hm : m = n
    · subst hm
      intro hu
      rw [ripe_unqueue m s hr] at hu
      cases hu
    · exact (SchedulerMove.leaves n).keeps_waits h fun queued _ => (unqueue_change n s).stays _ m hm queued
  · exact h
  · exact waits_dispatchUpTo _ _ _ ((SchedulerMove.joins n hr).keeps_waits h
      fun queued _ => mem_joinQueue_of_mem queued)

/-- A carrier that was re-evaluated stands in its queue if it is still ripe. -/
theorem reeval_waits (n : Site) (s : State) : Waits n (reeval n s) := by
  rcases reeval_cases n s with ⟨hr, e⟩ | ⟨-, hq, e⟩ | ⟨hr, -, e⟩ <;> rw [e]
  · intro hu
    rw [ripe_unqueue n s hr] at hu
    cases hu
  · exact fun _ => hq
  · refine waits_dispatchUpTo _ _ _ fun _ => ?_
    have owner : ((joinQueue n s).carrier n).owner = (s.carrier n).owner := (joinQueue_cascade n s).owner n
    rw [owner, port_joinQueue_same]
    exact List.mem_append_right _ List.mem_cons_self

theorem reevalDependents_waits {x m : Site} {s : State} (h : dependent s x m = true) :
    Waits m (reevalDependents x s) := by
  rw [reevalDependents_eq]
  have cascade (n : Site) (u : State) : Cascade u (reevalDependent x n u) :=
    (reevalDependent_schedulerMoves x n u).reportMoves.cascade
  refine forList_reaches (P := fun u => dependent u x m = true) (x := m) (fun n u hu => ?_) (fun u hu => ?_)
    (fun n u _ hw => ?_) allSites s h (.inl (mem_allSites m))
  · rw [(cascade n u).dependent]; exact hu
  · rw [reevalDependent, if_pos hu]; exact reeval_waits m u
  · rw [reevalDependent]
    split
    · exact waits_reeval hw
    · exact hw

/-! ### The obligation -/

theorem risen_cascade (n : Site) (s : State) : Cascade s (risen n s) :=
  (cascade_modPort s _ _ fun _ => by rfl).trans (cascade_modCarrier _ n _ fun _ => by rfl)

theorem offerQueue_post (t u : Tenant) (x : Notice) (s : State) :
    ((post t x s).port u).offerQueue = (s.port u).offerQueue := by
  rw [post, port_modPort]
  split
  · split <;> rfl
  · rfl

/-- What the re-evaluation of its dependents leaves of a COVERAGE carrier that came to ACTIVE. -/
theorem reevalDependents_risen {n : Site} {s v : State} (hq : QueuesOk s) (hr : (s.carrier n).role = .coverage)
    (cascade : Cascade s v) (carriers : v.carriers = (risen n s).carriers)
    (queues : ∀ u, (v.port u).offerQueue = ((risen n s).port u).offerQueue) :
    (reevalDependents n v).carrier n = { (s.carrier n).returned s with cause := none } ∧
      (reevalDependents n v).rails = v.rails ∧ (reevalDependents n v).stack = v.stack ∧
      ∀ m, dependent s n m = true → ripe (reevalDependents n v) m = true →
        m ∈ ((reevalDependents n v).port (s.carrier m).owner).offerQueue := by
  have moves := reevalDependents_schedulerMoves n v
  obtain ⟨rails, -, stack⟩ := (reevalDependents_eases n v).rails
  have record : v.carrier n = { (s.carrier n).returned s with cause := none } := by
    rw [State.carrier, carriers]
    exact carrier_modCarrier_same _ n _
  have unqueued : Unqueued v n := by
    intro u hn
    have queued : n ∈ (s.port u).offerQueue := by
      rw [queues, risen, port_modCarrier, port_modPort] at hn
      split at hn
      · exact List.mem_of_mem_filter hn
      · exact hn
    obtain ⟨-, -, capacity, -⟩ := (hq u).2 n queued
    rw [hr] at capacity; cases capacity
  refine ⟨?_, rails, stack, fun m hd hripe => ?_⟩
  · rw [moves.keeps_coverage (by rw [record]; exact hr) (by rw [record]; rfl) unqueued, record]
  · have waits := reevalDependents_waits (x := n) (m := m) ((cascade.dependent n m).trans hd) hripe
    rwa [moves.reportMoves.cascade.owner, cascade.owner] at waits

/-- Settles O12, by the state of the carrier's rail. -/
theorem wakingByRailState : Obligations.WakingByRailState := by
  intro n cls s c r u back onHold notice t
  refine ⟨enterWaking_of_waiting, fun hs hh => ?_, fun hs hi => ?_, fun hs hl => ?_, fun hs hcls ho => ?_,
    fun hs => (enterWaking_of_powered hs).1, fun hs => (enterWaking_of_held hs).1,
    fun hs => (enterWaking_of_powered hs).2, fun hs => (enterWaking_of_held hs).2, fun hs hr hq => ?_,
    enterWaking_of_fault⟩
  case refine_1 =>
    dsimp only [t]
    rw [enterWaking_of_off hs, queueRail_of_held (s := s.modCarrier n Carrier.rising) hh]
    cases cls <;> rfl
  case refine_2 =>
    obtain ⟨carriers, ramp, state, count, others⟩ :=
      queueRail_idle (r := r) (cls := cls) (s := s.modCarrier n Carrier.rising) hi
    dsimp only [t]
    rw [enterWaking_of_off hs]
    exact ⟨carriers, ramp, state, count.trans (satSucc_eq_min _ _), others⟩
  case refine_3 =>
    exact (enterWaking_of_queued hs).trans (raiseRail_of_low (s := s.modCarrier n Carrier.rising) hl)
  case refine_4 =>
    subst hcls
    exact (enterWaking_of_queued hs).trans (raiseRail_of_ordinary (s := s.modCarrier n Carrier.rising) ho)
  case refine_5 =>
    have told : Cascade s (risen n s) := risen_cascade n s
    rcases hs with hs | hs
    · obtain ⟨record, rails, stack, waits⟩ := reevalDependents_risen hq hr (told.trans (post_cascade _ _ _)) rfl
        (offerQueue_post c.owner · notice (risen n s))
      dsimp only [t]
      rw [(enterWaking_of_powered hs).2 hr]
      refine ⟨record, ?_, stack, waits⟩
      rw [State.rail, toldPowered, rails]
      exact hs
    · obtain ⟨record, rails, stack, waits⟩ := reevalDependents_risen hq hr
        ((told.trans (cascade_modRail _ r Rail.unheld fun _ => by rfl)).trans (post_cascade _ _ _)) rfl
        (offerQueue_post c.owner · notice ((risen n s).modRail r Rail.unheld))
      dsimp only [t]
      rw [(enterWaking_of_held hs).2 hr]
      refine ⟨record, ?_, stack, waits⟩
      rw [State.rail, toldUnheld, rails]
      exact congrArg Rail.state (rail_modRail_same (risen n s) r Rail.unheld)

end Sys2Proof.Machine
end

/-! # Returns to ACTIVE from an exchange -/

section

namespace Sys2Proof.Machine

/-! ### Dispatch as an induction -/

/-- What every offer from the head of a queue keeps, a dispatch keeps. -/
theorem dispatchUpTo_keeps {P : State → Prop} {t : Tenant}
    (offers : ∀ u m rest, (u.port t).offerQueue = m :: rest → P u →
      P (issueOffer m (u.modPort t fun p => { p with offerQueue := rest }))) :
    ∀ (k : Nat) (s : State), P s → P (dispatchUpTo k t s)
  | 0, _, h => h
  | k + 1, s, h => by
    rw [dispatchUpTo]
    split
    · exact h
    · rename_i m rest hq
      split
      · exact dispatchUpTo_keeps offers k _ (offers s m rest hq h)
      · exact h

theorem forList_keeps {α : Type} {P : State → Prop} {f : α → State → State} :
    ∀ (l : List α) (s : State), (∀ x ∈ l, ∀ u, P u → P (f x u)) → P s → P (forList l f s)
  | [], _, _, h => h
  | x :: l, s, hf, h =>
    forList_keeps l (f x s) (fun y hy => hf y (List.mem_cons_of_mem x hy)) (hf x List.mem_cons_self s h)

/-! ### Notices -/

theorem port_post_ne {t u : Tenant} (x : Notice) (s : State) (h : u ≠ t) : (post t x s).port u = s.port u :=
  port_modPort_ne s _ h

theorem mem_joinNotices {q : List Notice} {x y : Notice} (h : y ∈ joinNotices q x) : y ∈ q ∨ y = x := by
  rw [joinNotices] at h
  split at h
  · rcases List.mem_append.1 h with h | h
    · exact .inl (List.mem_of_mem_filter h)
    · exact .inr (List.mem_singleton.1 h)
  · rcases List.mem_append.1 h with h | h
    · exact .inl h
    · exact .inr (List.mem_singleton.1 h)

theorem self_mem_joinNotices (q : List Notice) (x : Notice) : x ∈ joinNotices q x := by
  rw [joinNotices]
  split <;> exact List.mem_append_right _ List.mem_cons_self

/-- A notice stays while one about another carrier joins the queue (R171). -/
theorem mem_joinNotices_of_mem {q : List Notice} {x y : Notice} (h : y ∈ q)
    (about : y.about ≠ x.about ∨ x.about = none) :
    y ∈ joinNotices q x := by
  rw [joinNotices]
  split
  · rename_i n hn
    refine List.mem_append_left _ (List.mem_filter.2 ⟨h, ?_⟩)
    rw [hn] at about
    simpa using about
  · exact List.mem_append_left _ h

/-- A notice stands in a tenant's queue, unless its port is DISABLED. -/
def Told (t : Tenant) (x : Notice) (s : State) : Prop := (s.port t).link ≠ .disabled → x ∈ (s.port t).notices

theorem notices_post_same (t : Tenant) (x : Notice) (s : State) : ((post t x s).port t).notices =
    if (s.port t).link = .disabled then (s.port t).notices else joinNotices (s.port t).notices x := by
  rw [post, port_modPort_same]
  split
  · rename_i h; rw [if_pos (beq_iff_eq.1 h)]
  · rename_i h; rw [if_neg fun hd => h (beq_iff_eq.2 hd)]

theorem mem_notices_post {t u : Tenant} {x y : Notice} {s : State} (h : y ∈ ((post t x s).port u).notices) :
    y ∈ (s.port u).notices ∨ y = x := by
  by_cases hu : u = t
  · subst hu
    rw [notices_post_same] at h
    split at h
    · exact .inl h
    · exact mem_joinNotices h
  · rw [port_post_ne x s hu] at h
    exact .inl h

theorem told_post_same (t : Tenant) (x : Notice) (s : State) : Told t x (post t x s) := by
  intro h
  rw [(post_cascade t x s).link] at h
  rw [notices_post_same, if_neg h]
  exact self_mem_joinNotices _ x

theorem Told.post {t u : Tenant} {x y : Notice} {s : State} (h : Told t y s)
    (about : y.about ≠ x.about ∨ x.about = none) : Told t y (Machine.post u x s) := by
  intro hl
  rw [(post_cascade u x s).link] at hl
  by_cases hu : t = u
  · subst hu
    rw [notices_post_same, if_neg hl]
    exact mem_joinNotices_of_mem (h hl) about
  · rw [port_post_ne x s hu]
    exact h hl

theorem Told.of_notices {t : Tenant} {y : Notice} {s u : State} (h : Told t y s)
    (link : (u.port t).link = (s.port t).link) (notices : (u.port t).notices = (s.port t).notices) : Told t y u := by
  intro hl
  rw [notices]
  exact h (link ▸ hl)

theorem Told.of_ports {t : Tenant} {y : Notice} {s u : State} (h : Told t y s) (ports : u.ports = s.ports) :
    Told t y u := by
  rwa [Told, port_of_ports ports]

/-! ### What follows an exit from an exchange -/

/-- Carrier n has returned to ACTIVE since s, and nothing else has happened but what may follow. -/
structure Returned (n : Site) (posted : List Notice) (s t : State) : Prop where
  record : t.carrier n = (s.carrier n).returned s
  follows : ExitFollows n posted s t

theorem filter_ne_of_not_mem {n : Site} {l : List Site} (h : n ∉ l) : l.filter (· != n) = l :=
  List.filter_eq_self.2 fun m hm => by
    rw [bne_iff_ne]
    rintro rfl
    exact h hm

theorem QueuesOk.not_mem_of_power {s : State} (hq : QueuesOk s) {n : Site} (h : (s.carrier n).power ≠ .active)
    (u : Tenant) : n ∉ (s.port u).offerQueue := by
  intro hn
  obtain ⟨-, -, -, active⟩ := (hq u).2 n hn
  exact h active

/-- A carrier that is not queued enters ACTIVE: its record alone is written. -/
theorem enterActive_of_unqueued {n : Site} {s : State} (h : n ∉ (s.port (s.carrier n).owner).offerQueue) :
    enterActive n s = s.modCarrier n fun c => c.returned s := by
  rw [enterActive_eq, modPort_eq_self]
  rw [filter_ne_of_not_mem h]

theorem returned_enterActive {n : Site} {s : State} (posted : List Notice) (hq : QueuesOk s)
    (hp : (s.carrier n).power.inExchange = true) : Returned n posted s (enterActive n s) := by
  have out : n ∉ (s.port (s.carrier n).owner).offerQueue :=
    QueuesOk.not_mem_of_power hq (fun h => by rw [h] at hp; cases hp) _
  have cascade := enterActive_cascade n s
  rw [enterActive_of_unqueued out] at cascade ⊢
  refine ⟨carrier_modCarrier_same s n _, fun m hm => ?_, fun _ _ => rfl, List.suffix_rfl, fun _ hx => .inl hx,
    rfl, rfl, rfl,
    cascade⟩
  rw [carrier_modCarrier_ne s _ hm]
  exact ⟨.inl rfl, .inl rfl⟩

/-- The holdoff of an anchor starts. -/
theorem Returned.settles {n x : Site} {posted : List Notice} {s t : State} (h : Returned n posted s t) (hx : x ≠ n)
    (anchor : x ∈ (s.carrier n).anchors) :
    Returned n posted s (t.modCarrier x fun c => { c with holdoff := some t.now }) := by
  obtain ⟨record, others, ports, suffix, notices, rails, ramp, stack, cascade⟩ := h
  have now : t.now = s.now := congrArg Clock.now cascade.clock
  refine ⟨(carrier_modCarrier_ne t _ hx.symm).trans record, fun m hm => ?_, ports, suffix, notices, rails, ramp, stack,
    cascade.trans (cascade_modCarrier t x _ fun _ => by rfl)⟩
  obtain ⟨holdoff, change⟩ := others m hm
  by_cases he : m = x
  · subst he
    rw [carrier_modCarrier_same]
    refine ⟨.inr ⟨anchor, by rw [now]⟩, change.imp (fun hc => ?_) fun ⟨queued, left, hc⟩ => ⟨queued, left, ?_⟩⟩
    · rw [hc]
    · rw [hc]
  · rw [carrier_modCarrier_ne t _ he]
    exact ⟨holdoff, change⟩

theorem Returned.post {n : Site} {posted : List Notice} {s t : State} (h : Returned n posted s t) (x : Notice)
    (hx : x ∈ posted ∨ x.isOffer = true) : Returned n posted s (post (s.carrier n).owner x t) := by
  obtain ⟨record, others, ports, suffix, notices, rails, ramp, stack, cascade⟩ := h
  refine ⟨record, fun m hm => ?_, fun w hw => ?_, ?_, fun y hy => ?_, rails, ramp, stack,
    cascade.trans (post_cascade _ _ _)⟩
  · rw [offerQueue_post]
    exact others m hm
  · rw [port_post_ne x t hw]
    exact ports w hw
  · rw [offerQueue_post]
    exact suffix
  · rcases mem_notices_post hy with hy | rfl
    · exact notices y hy
    · exact .inr hx

/-- The head of the owner's queue is offered: it is not the carrier itself, and it was there all the time. -/
theorem Returned.offers {n m : Site} {posted : List Notice} {rest : List Site} {s t : State} (hq : QueuesOk s)
    (hp : (s.carrier n).power ≠ .active) (h : Returned n posted s t)
    (head : (t.port (s.carrier n).owner).offerQueue = m :: rest) :
    m ≠ n ∧ Returned n posted s
      (issueOffer m (t.modPort (s.carrier n).owner fun p => { p with offerQueue := rest })) := by
  have cascade := (SchedulerMove.offers _ m rest head).cascade
  obtain ⟨record, others, ports, suffix, notices, rails, ramp, stack, before⟩ := h
  rw [head] at suffix
  have queued : m ∈ (s.port (s.carrier n).owner).offerQueue := suffix.subset List.mem_cons_self
  have once : m ∉ rest := (List.nodup_cons.1 (suffix.sublist.nodup (hq _).1)).1
  have hm : m ≠ n := by
    rintro rfl
    exact QueuesOk.not_mem_of_power hq hp _ queued
  obtain ⟨-, owner, -⟩ := (hq _).2 m queued
  obtain ⟨-, kept | ⟨-, out, -⟩⟩ := others m hm
  · let u := t.modPort (s.carrier n).owner fun p => { p with offerQueue := rest }
    let v := issueOffer m u
    have left : (v.port (s.carrier n).owner).offerQueue = rest := by
      rw [offerQueue_issueOffer, port_modPort_same]
    have posts : v = Machine.post (s.carrier n).owner (.offer m (noticeNumber u m) ((u.carrier m).token + 1))
        (u.modCarrier m fun c => c.offeredNow u) := by
      have same : (u.carrier m).owner = (s.carrier n).owner := (before.owner m).trans owner
      rw [← same]
      exact issueOffer_eq m u
    have now : u.now = s.now := congrArg Clock.now before.clock
    refine ⟨hm, ?_, fun k hk => ?_, fun w hw => ?_, ?_, fun x hx => ?_, rails, ramp, stack, before.trans cascade⟩
    · rw [carrier_issueOffer, if_neg hm.symm]
      exact record
    · rw [left, carrier_issueOffer]
      obtain ⟨holdoff, change⟩ := others k hk
      split
      · rename_i he
        subst he
        refine ⟨holdoff, .inr ⟨queued, once, ?_⟩⟩
        change (t.carrier k).offeredNow u = _
        rw [kept, Carrier.offeredNow, now]
        rfl
      · refine ⟨holdoff, change.imp_right fun ⟨here, gone, hc⟩ => ⟨here, fun hr => gone ?_, hc⟩⟩
        rw [head]
        exact List.mem_cons_of_mem m hr
    · rw [← ports w hw]
      change v.port w = _
      rw [posts, port_post_ne _ _ hw]
      rw [port_modCarrier, port_modPort_ne t _ hw]
    · rw [left]
      exact (List.suffix_cons m rest).trans suffix
    · change x ∈ (v.port _).notices at hx
      rw [posts] at hx
      rcases mem_notices_post hx with hx | rfl
      · rw [port_modCarrier, port_modPort_same] at hx
        exact notices x hx
      · exact .inr (.inr rfl)
  · exact absurd (head ▸ List.mem_cons_self) out

theorem Returned.leftDraining {n : Site} {posted : List Notice} {s t : State} {was : Power} (h : Returned n posted s t)
    (hn : n ∉ (s.carrier n).anchors) :
    Returned n posted s (leftDraining was (s.carrier n).anchors t) := by
  rw [Machine.leftDraining]
  split
  · refine forList_keeps (P := Returned n posted s) _ t (fun x hx u hu => ?_) h
    split
    · exact hu.settles (fun he => hn (he ▸ hx)) hx
    · exact hu
  · exact h

/-- A carrier returns to ACTIVE, up to the notice. -/
theorem returned_returnToActive {n : Site} {s : State} (posted : List Notice) (hq : QueuesOk s)
    (hp : (s.carrier n).power.inExchange = true) (hn : n ∉ (s.carrier n).anchors) :
    Returned n posted s (returnToActive n s) :=
  (returned_enterActive posted hq hp).leftDraining hn

theorem not_active_of_inExchange {p : Power} (h : p.inExchange = true) : p ≠ .active := by
  rintro rfl; cases h

/-- The dispatch in the freed slot keeps what has been done, and the notices about the carrier. -/
theorem Returned.dispatch {n : Site} {posted : List Notice} {s t : State} (hq : QueuesOk s)
    (hp : (s.carrier n).power.inExchange = true) (about : ∀ x ∈ posted, x.about = some n) (h : Returned n posted s t)
    (told : ∀ x ∈ posted, Told (s.carrier n).owner x t) :
    Returned n posted s (dispatch (s.carrier n).owner t) ∧
      ∀ x ∈ posted, Told (s.carrier n).owner x (Machine.dispatch (s.carrier n).owner t) := by
  refine dispatchUpTo_keeps (P := fun u => Returned n posted s u ∧ ∀ x ∈ posted, Told (s.carrier n).owner x u)
    (fun u m rest head ⟨hu, standing⟩ => ?_) _ t ⟨h, told⟩
  obtain ⟨hm, after⟩ := hu.offers hq (not_active_of_inExchange hp) head
  refine ⟨after, fun x hx => ?_⟩
  rw [issueOffer_eq]
  refine Told.post ((standing x hx).of_notices ?_ ?_) (.inl ?_)
  · rw [port_modCarrier, port_modPort_same]
  · rw [port_modCarrier, port_modPort_same]
  · rw [about x hx]
    exact fun he => hm (Option.some.inj he).symm

/-! ### DECLINE -/

theorem returnToActive_cascade (n : Site) (s : State) (h : (s.carrier n).power.inExchange = true) :
    Cascade s (returnToActive n s) := (returnToActive_eases n s h).moves.cascade

/-- What a DECLINE that is taken answers. -/
theorem exec_decline {t : Tenant} {num : Nat} {i : Site} {s : State} (htake : (s.port t).canTake = true)
    (h : translate s t num = .ok i) (hp : (s.carrier i).power.inExchange = true) :
    exec (.decline t num (s.carrier i).token.toNat 0) s = .next (post t (replyAbout s t i 0x03 num .ok)
      (dispatch (s.carrier i).owner (returnToActive i s))) := by
  have run : exec (.decline t num (s.carrier i).token.toNat 0) s =
      .next (whenTaken t (handle t 0x03 num 0 false (declineRule (s.carrier i).token.toNat)) s) := rfl
  have matched : tokenMatches s i (s.carrier i).token.toNat = true := beq_self_eq_true _
  have rule : declineRule (s.carrier i).token.toNat i s =
      .taken (dispatch (s.carrier i).owner (returnToActive i s)) := by
    rw [declineRule, hp, matched]
    rfl
  rw [run, whenTaken, if_pos htake, handle_rule h, rule]
  simp only [Answer.taken,
    lowestLocal_cascade ((returnToActive_cascade i s hp).trans (dispatch_schedulerMoves _ _).reportMoves.cascade)]
  rfl

/-- Settles O13: the return to ACTIVE, then the notice of a withdrawal, then the offers in the freed slot. -/
theorem returnsToActive : Obligations.ReturnsToActive := by
  refine ⟨fun n why s => ⟨withdraw_of_not, fun hp hq hn => ?_⟩, fun t num i s htake h hx hq hn => ?_⟩
  · let x := Notice.withdraw n (noticeNumber s n) (s.carrier n).token why
    have returned := returned_returnToActive [x] hq hp hn
    have told := told_post_same (s.carrier n).owner x (returnToActive n s)
    obtain ⟨⟨record, follows⟩, stays⟩ := (returned.post x (.inl List.mem_cons_self)).dispatch hq hp
      (List.forall_mem_singleton.2 rfl) (List.forall_mem_singleton.2 told)
    have run : withdraw n why s = dispatch (s.carrier n).owner (post (s.carrier n).owner x (returnToActive n s)) := by
      rw [withdraw, if_pos hp]
      simp only [noticeNumber_cascade (returnToActive_cascade n s hp)]
      rfl
    rw [← run] at record follows stays
    refine ⟨record, fun hl => stays x List.mem_cons_self ?_, follows⟩
    obtain ⟨-, -, -, -, -, -, -, cascade⟩ := follows
    rw [cascade.link]
    exact hl
  · have hp : (s.carrier i).power.inExchange = true := by rcases hx with hx | hx <;> rw [hx] <;> rfl
    obtain ⟨⟨record, follows⟩, -⟩ := (returned_returnToActive [] hq hp hn).dispatch hq hp
      (List.forall_mem_nil _) (List.forall_mem_nil _)
    exact ⟨_, exec_decline htake h hp, record, follows⟩

end Sys2Proof.Machine
end

/-! # The end of night -/

section

namespace Sys2Proof.Machine

/-! ### A withdrawal from an empty queue -/

theorem leftDraining_records (was : Power) (anchors : List Site) (s : State) :
    (leftDraining was anchors s).ports = s.ports ∧
      ∀ m, ∃ h, (leftDraining was anchors s).carrier m = { s.carrier m with holdoff := h } := by
  rw [leftDraining]
  split
  · obtain ⟨-, -, ports, records⟩ := forList_records (R := fun _ c d => ∃ h, d = { c with holdoff := h })
      (fun _ c => ⟨c.holdoff, rfl⟩) (by rintro _ c _ _ ⟨_, rfl⟩ ⟨h, rfl⟩; exact ⟨h, rfl⟩)
      (f := fun x u => if drainingDependents u x = 0 && (u.carrier x).power == .active then
        u.modCarrier x fun c => { c with holdoff := some u.now } else u) (fun x u => by
      split
      · refine ⟨rfl, rfl, rfl, fun m => ?_⟩
        rw [carrier_modCarrier]
        split
        · exact ⟨_, rfl⟩
        · exact ⟨_, rfl⟩
      · exact ⟨rfl, rfl, rfl, fun m => ⟨_, rfl⟩⟩) anchors s
    exact ⟨ports, records⟩
  · exact ⟨rfl, fun m => ⟨_, rfl⟩⟩

theorem ports_post_congr {s u : State} (h : u.ports = s.ports) (t : Tenant) (x : Notice) :
    (post t x u).ports = (post t x s).ports := by
  rw [post, post, State.modPort, State.modPort, h]

/-- With its owner's queue empty a withdrawal offers nobody: one notice is posted, and other records change in their
holdoff only (R71). -/
theorem withdraw_of_empty {n : Site} {why : Reason} {s : State} (hp : (s.carrier n).power.inExchange = true)
    (empty : (s.port (s.carrier n).owner).offerQueue = []) :
    (withdraw n why s).ports =
        (post (s.carrier n).owner (.withdraw n (noticeNumber s n) (s.carrier n).token why) s).ports ∧
      ((withdraw n why s).carrier n).power = .active ∧
      ∀ m, m ≠ n → ∃ h, (withdraw n why s).carrier m = { s.carrier m with holdoff := h } := by
  let x := Notice.withdraw n (noticeNumber s n) (s.carrier n).token why
  let u := returnToActive n s
  obtain ⟨ports, records⟩ := leftDraining_records (s.carrier n).power (s.carrier n).anchors (enterActive n s)
  have out : n ∉ (s.port (s.carrier n).owner).offerQueue := by rw [empty]; exact List.not_mem_nil
  have same : u.ports = s.ports := by
    refine ports.trans ?_
    rw [enterActive_of_unqueued out]
    rfl
  have run : withdraw n why s = post (s.carrier n).owner x u := by
    rw [withdraw, if_pos hp]
    simp only [noticeNumber_cascade (returnToActive_cascade n s hp)]
    refine dispatch_of_empty ?_
    rw [offerQueue_post, State.port, same]
    exact empty
  rw [run]
  refine ⟨ports_post_congr same _ _, ?_, fun m hm => ?_⟩
  · obtain ⟨h, record⟩ := records n
    exact (congrArg Carrier.power record).trans (congrArg Carrier.power (carrier_enterActive_same n s))
  · obtain ⟨h, record⟩ := records m
    rw [carrier_enterActive_ne s hm] at record
    exact ⟨h, record⟩

/-! ### A wake, beside its own carrier -/

/-- No record but that of site k has changed, and of the notices only those about k. -/
structure Beside (k : Site) (s t : State) : Prop where
  others : ∀ m, m ≠ k → t.carrier m = s.carrier m
  told : ∀ w y, y.about ≠ some k → Told w y s → Told w y t

theorem Beside.trans {k : Site} {s t u : State} (h : Beside k s t) (g : Beside k t u) : Beside k s u where
  others m hm := (g.others m hm).trans (h.others m hm)
  told w y hy ht := g.told w y hy (h.told w y hy ht)

theorem Beside.of_ports {k : Site} {s t : State} (others : ∀ m, m ≠ k → t.carrier m = s.carrier m)
    (ports : t.ports = s.ports) : Beside k s t where
  others := others
  told _ _ _ h := h.of_ports ports

theorem Apart.beside {s t : State} (k : Site) (h : Apart s t) : Beside k s t :=
  .of_ports (fun m _ => by rw [State.carrier, h.carriers]; rfl) h.ports

theorem beside_modCarrier (k : Site) (f : Carrier → Carrier) (s : State) : Beside k s (s.modCarrier k f) :=
  .of_ports (fun _ hm => carrier_modCarrier_ne s f hm) rfl

theorem beside_post {k : Site} {x : Notice} (t : Tenant) (s : State) (hx : x.about = some k) :
    Beside k s (post t x s) where
  others _ _ := rfl
  told _ _ hy h := h.post (.inl (hx ▸ hy))

theorem beside_risen (k : Site) (s : State) : Beside k s (risen k s) where
  others m hm := carrier_modCarrier_ne _ _ hm
  told w y _ h := by
    refine h.of_notices ?_ ?_ <;> rw [risen, port_modCarrier, port_modPort] <;> split <;> rfl

/-- A CAPACITY carrier that enters WAKING changes no other carrier's record or notices. -/
theorem enterWaking_beside {k : Site} (cls : RampClass) {s : State} (hr : (s.carrier k).role = .capacity) :
    Beside k s (enterWaking k cls s) := by
  have rises := beside_modCarrier k Carrier.rising s
  cases hs : (s.rail (s.carrier k).rail).state with
  | on =>
    rw [(enterWaking_of_powered hs).1 hr]
    exact (beside_risen k s).trans (beside_post _ _ rfl)
  | hold =>
    rw [(enterWaking_of_held hs).1 hr]
    exact ((beside_risen k s).trans ((modRail_apart _ _ _).beside k)).trans (beside_post _ _ rfl)
  | off => rw [enterWaking_of_off hs]; exact rises.trans ((queueRail_apart _ _ _).beside k)
  | queued => rw [enterWaking_of_queued hs]; exact rises.trans ((raiseRail_apart _ _ _).beside k)
  | ramping => rw [enterWaking_of_waiting (.inl hs)]; exact rises
  | retryWait => rw [enterWaking_of_waiting (.inr hs)]; exact rises
  | fault => rw [enterWaking_of_fault hs]; exact (beside_modCarrier k _ s).trans (beside_post _ _ rfl)

theorem wakeCarrier_of_asleep {k : Site} {cls : RampClass} {s : State} (h : (s.carrier k).power = .asleep) :
    wakeCarrier k cls s = enterWaking k cls { s with stack := s.stack.filter (· != k) } := by
  rw [wakeCarrier, if_pos (beq_iff_eq.2 h)]

theorem wakeCarrier_beside (k : Site) (cls : RampClass) {s : State} (hc : CarriersOk s) :
    Beside k s (wakeCarrier k cls s) := by
  by_cases h : (s.carrier k).power = .asleep
  · rw [wakeCarrier_of_asleep h]
    refine Beside.trans (t := { s with stack := s.stack.filter (· != k) }) (.of_ports (fun _ _ => rfl) rfl)
      (enterWaking_beside cls ?_)
    exact capacity_of_sleepward (n := k) hc (by rw [h]; rfl)
  · rw [wakeCarrier_of_not h]
    exact .of_ports (fun _ _ => rfl) rfl

/-! ### A wake and the ramp queue, the slot being held -/

/-- A rail stands in the part of a class of the ramp queue. -/
def Stands (r : RailId) (cls : RampClass) (q : Ramp) : Prop :=
  match cls with
  | .ordinary => r ∈ q.ordinary
  | .urgent => r ∈ q.urgent

/-- A rail that a wake brings to the part of its class: OFF, or QUEUED in the ordinary part. -/
def Idle (r : RailId) (s : State) : Prop :=
  (s.rail r).state = .off ∨ (s.rail r).state = .queued ∧ r ∈ s.ramp.ordinary

/-- What wakes in a class do to a rail while the slot is held. -/
structure Lines (r : RailId) (cls : RampClass) (s t : State) : Prop where
  held : t.ramp.slot = s.ramp.slot
  stands : Stands r cls s.ramp → Stands r cls t.ramp
  idle : Idle r s → Idle r t ∨ Stands r cls t.ramp

theorem Lines.trans {r : RailId} {cls : RampClass} {s t u : State} (h : Lines r cls s t) (g : Lines r cls t u) :
    Lines r cls s u where
  held := g.held.trans h.held
  stands hs := g.stands (h.stands hs)
  idle hs := (h.idle hs).elim g.idle fun hq => .inr (g.stands hq)

theorem Lines.of_ramp {r : RailId} {cls : RampClass} {s t : State} (ramp : t.ramp = s.ramp)
    (rail : Idle r s → t.rail r = s.rail r) : Lines r cls s t where
  held := by rw [ramp]
  stands h := by rwa [ramp]
  idle h := .inl (by rwa [Idle, rail h, ramp])

theorem stands_joinRamp_same (r : RailId) (cls : RampClass) (s : State) : Stands r cls (joinRamp r cls s).ramp := by
  cases cls <;> exact List.mem_append_right _ List.mem_cons_self

theorem mem_ordinary_joinRamp {q r : RailId} {cls : RampClass} {s : State} (h : r ∈ s.ramp.ordinary) :
    r ∈ (joinRamp q cls s).ramp.ordinary := by
  cases cls with
  | urgent => exact h
  | ordinary => exact List.mem_append_left _ h

theorem stands_joinRamp {q r : RailId} {cls : RampClass} {s : State} (h : Stands r cls s.ramp) :
    Stands r cls (joinRamp q cls s).ramp := by
  cases cls <;> exact List.mem_append_left _ h

theorem slot_joinRamp (r : RailId) (cls : RampClass) (s : State) : (joinRamp r cls s).ramp.slot = s.ramp.slot := by
  cases cls <;> rfl

/-- A rail in OFF joins the queue. -/
theorem queueRail_lines {q : RailId} (r : RailId) {cls : RampClass} {s : State} (held : s.ramp.slot ≠ none) :
    Lines r cls s (queueRail q cls s) := by
  rw [queueRail_of_held held]
  refine ⟨slot_joinRamp _ _ _, stands_joinRamp (s := s.modRail q _), fun h => ?_⟩
  by_cases hr : r = q
  · subst hr
    exact .inr (stands_joinRamp_same _ _ _)
  · refine .inl ?_
    rw [Idle, rail_joinRamp, rail_modRail_ne s _ hr]
    exact h.imp_right fun ⟨hs, hm⟩ => ⟨hs, mem_ordinary_joinRamp (s := s.modRail q _) hm⟩

/-- A QUEUED rail is raised, or keeps its place. -/
theorem raiseRail_lines (q r : RailId) (cls : RampClass) (s : State) : Lines r cls s (raiseRail q cls s) := by
  by_cases hl : cls = .ordinary ∨ q ∉ s.ramp.ordinary
  · rw [raiseRail_of_low hl]
    exact .of_ramp rfl fun _ => rfl
  · obtain ⟨hcls, low⟩ := not_or.1 hl
    have urgent : cls = .urgent := by cases cls <;> trivial
    subst urgent
    rw [raiseRail_of_ordinary (not_not.1 low)]
    have stays {l : List RailId} (hr : r ≠ q) (h : r ∈ l) : r ∈ l.filter (· != q) :=
      List.mem_filter.2 ⟨h, bne_iff_ne.2 hr⟩
    by_cases hr : r = q
    · subst hr
      have top : Stands r .urgent
          ⟨s.ramp.urgent.filter (· != r) ++ [r], s.ramp.ordinary.filter (· != r), s.ramp.slot⟩ :=
        List.mem_append_right _ List.mem_cons_self
      exact ⟨rfl, fun _ => top, fun _ => .inr top⟩
    · exact ⟨rfl, fun h => List.mem_append_left _ (stays hr h),
        fun h => .inl (h.imp_right fun ⟨hs, hm⟩ => ⟨hs, stays hr hm⟩)⟩

theorem not_idle_of_hold {r : RailId} {s : State} (h : (s.rail r).state = .hold) : ¬ Idle r s := by
  rintro (hi | ⟨hi, -⟩) <;> rw [h] at hi <;> cases hi

theorem enterWaking_lines (k : Site) (r : RailId) (cls : RampClass) {s : State} (held : s.ramp.slot ≠ none) :
    Lines r cls s (enterWaking k cls s) := by
  have waking : ((s.modCarrier k Carrier.rising).carrier k).power = .waking := by rw [carrier_modCarrier_same]; rfl
  have rises : Lines r cls s (s.modCarrier k Carrier.rising) := .of_ramp rfl fun _ => rfl
  cases hs : (s.rail (s.carrier k).rail).state with
  | on =>
    rw [enterWaking_of_on hs]
    obtain ⟨rails, ramp, -⟩ := (powered_eases k _ waking).rails
    exact .of_ramp ramp fun _ => by rw [State.rail, rails]; rfl
  | hold =>
    rw [enterWaking_of_hold hs]
    obtain ⟨rails, ramp, -⟩ :=
      (powered_eases k ((s.modCarrier k Carrier.rising).modRail (s.carrier k).rail Rail.unheld) waking).rails
    refine .of_ramp ramp fun hi => ?_
    have hr : r ≠ (s.carrier k).rail := fun he => not_idle_of_hold hs (he ▸ hi)
    rw [State.rail, rails]
    exact rail_modRail_ne (s.modCarrier k Carrier.rising) _ hr
  | off => rw [enterWaking_of_off hs]; exact rises.trans (queueRail_lines r held)
  | queued => rw [enterWaking_of_queued hs]; exact rises.trans (raiseRail_lines _ r cls _)
  | ramping => rw [enterWaking_of_waiting (.inl hs)]; exact rises
  | retryWait => rw [enterWaking_of_waiting (.inr hs)]; exact rises
  | fault => rw [enterWaking_of_fault hs]; exact .of_ramp rfl fun _ => rfl

theorem wakeCarrier_lines (k : Site) (r : RailId) (cls : RampClass) {s : State} (held : s.ramp.slot ≠ none) :
    Lines r cls s (wakeCarrier k cls s) := by
  by_cases h : (s.carrier k).power = .asleep
  · rw [wakeCarrier_of_asleep h]
    exact Lines.trans (t := { s with stack := s.stack.filter (· != k) }) (.of_ramp rfl fun _ => rfl)
      (enterWaking_lines k r cls held)
  · rw [wakeCarrier_of_not h]
    exact .of_ramp rfl fun _ => rfl

/-- A sleeper's own wake brings its rail to the part of the class. -/
theorem wakeCarrier_stands {n : Site} {cls : RampClass} {s : State} (held : s.ramp.slot ≠ none)
    (asleep : (s.carrier n).power = .asleep) (h : Idle (s.carrier n).rail s) :
    Stands (s.carrier n).rail cls (wakeCarrier n cls s).ramp := by
  let u : State := { s with stack := s.stack.filter (· != n) }
  have idle : Idle (u.carrier n).rail u := h
  rw [wakeCarrier_of_asleep asleep]
  rcases idle with hs | ⟨hs, low⟩
  · rw [enterWaking_of_off hs, queueRail_of_held (s := u.modCarrier n Carrier.rising) held]
    exact stands_joinRamp_same _ _ _
  · rw [enterWaking_of_queued hs]
    cases cls with
    | ordinary => exact low
    | urgent =>
      rw [raiseRail_of_ordinary (s := u.modCarrier n Carrier.rising) low]
      exact List.mem_append_right _ List.mem_cons_self

end Sys2Proof.Machine
end

/-! # What the night-end event leaves -/

section

namespace Sys2Proof.Machine

theorem emptyQueue_rails (t : Tenant) (s : State) :
    (emptyQueue t s).rails = s.rails ∧ (emptyQueue t s).ramp = s.ramp ∧ (emptyQueue t s).stack = s.stack :=
  forList_induction (fun u => u.rails = s.rails ∧ u.ramp = s.ramp ∧ u.stack = s.stack)
    (fun n u => u.modCarrier n fun c => { c with ripeTime := none }) (fun _ _ h => h) (s.port t).offerQueue s
    ⟨rfl, rfl, rfl⟩

theorem dawned_rails (s : State) :
    (dawned s).rails = s.rails ∧ (dawned s).ramp = s.ramp ∧ (dawned s).stack = s.stack := by
  obtain ⟨rails, ramp, stack⟩ := emptyQueue_rails .a s
  obtain ⟨rails', ramp', stack'⟩ := emptyQueue_rails .b (emptyQueue .a s)
  obtain ⟨rails'', ramp'', stack''⟩ := emptyQueue_rails .c (emptyQueue .b (emptyQueue .a s))
  exact ⟨rails''.trans (rails'.trans rails), ramp''.trans (ramp'.trans ramp), stack''.trans (stack'.trans stack)⟩

theorem dawned_cascade (s : State) : Cascade s (dawned s) :=
  ((emptyQueue_cascade .a s).trans (emptyQueue_cascade .b _)).trans (emptyQueue_cascade .c _)

theorem dawned_token (s : State) (n : Site) : ((dawned s).carrier n).token = (s.carrier n).token := by
  have kept (t : Tenant) (u : State) : ((emptyQueue t u).carrier n).token = (u.carrier n).token := by
    obtain ⟨-, -, -, records⟩ := emptyQueue_records t u
    obtain ⟨r, record⟩ := records n
    rw [record]
  rw [dawned, kept, kept, kept]

/-- Night has ended since s, every queue is empty, and nothing joins one. -/
structure Dark (s u : State) : Prop where
  carriers : CarriersOk u
  cascade : Cascade s u
  hushed : ∀ w, Hushed w u

theorem dark_dawned {s : State} (hc : CarriersOk s) (h : Machine.night s = false) : Dark s (dawned s) where
  carriers := (dawned_acts s).keeps_carriers hc
  cascade := dawned_cascade s
  hushed := dawned_hushed h

theorem Dark.withdraw {s u : State} (h : Dark s u) (n : Site) (why : Reason) : Dark s (withdraw n why u) where
  carriers := (withdraw_shifts n why u).acts.keeps_carriers h.carriers
  cascade := h.cascade.trans (withdraw_eases n why u).moves.cascade
  hushed w := (withdraw_shifts n why u).keeps_of_carriers (fun _ _ hc k hu => k.keeps_hushed hc hu)
    h.carriers (h.hushed w)

/-- The state in which night has ended and every exchange is withdrawn, before any sleeper is woken (R46). -/
def quieted (cause : NightEnd) (s : State) : State := forList allSites (fun n u => withdraw n cause.reason u) (dawned s)

theorem nightEnd_eq_wakes (cause : NightEnd) (s : State) : nightEnd cause s =
    forList (quieted cause s).stack (fun n u => wakeCarrier n cause.cls u) (quieted cause s) := rfl

theorem dark_quieted {cause : NightEnd} {s : State} (hc : CarriersOk s) (h : Machine.night s = false) :
    Dark s (quieted cause s) :=
  forList_induction (Dark s) _ (fun n _ hu => hu.withdraw n cause.reason) allSites _ (dark_dawned hc h)

theorem quieted_rails (cause : NightEnd) (s : State) : (quieted cause s).rails = s.rails ∧
    (quieted cause s).ramp = s.ramp ∧ (quieted cause s).stack = s.stack := by
  have eases : Eases (dawned s) (quieted cause s) :=
    forList_eases _ (fun n u => withdraw_eases n cause.reason u) allSites _
  obtain ⟨rails, ramp, stack⟩ := eases.rails
  obtain ⟨rails', ramp', stack'⟩ := dawned_rails s
  exact ⟨rails.trans rails', ramp.trans ramp', stack.trans stack'⟩

/-! ### The withdrawals -/

/-- The notice of the withdrawal that ends the exchange in which carrier n is in s. -/
def recallOf (n : Site) (why : Reason) (s : State) : Notice := .withdraw n (noticeNumber s n) (s.carrier n).token why

/-- Carrier n is in the exchange in which it was in s. -/
def Exchanging (n : Site) (s u : State) : Prop :=
  (u.carrier n).power.inExchange = true ∧ (u.carrier n).token = (s.carrier n).token

/-- Carrier n is ACTIVE, and its owner has been told why. -/
def Recalled (n : Site) (why : Reason) (s u : State) : Prop :=
  (u.carrier n).power = .active ∧ Told (s.carrier n).owner (recallOf n why s) u

section

variable {n m : Site} {why : Reason} {s u : State}

theorem Dark.empty (d : Dark s u) (w : Tenant) : (u.port w).offerQueue = [] := (d.hushed w).empty

/-- What a withdrawal does to the ports and the other records while no carrier is queued. -/
theorem Dark.withdraw_run (d : Dark s u) (hp : (u.carrier m).power.inExchange = true) :
    (Machine.withdraw m why u).ports =
        (post (s.carrier m).owner (.withdraw m (noticeNumber s m) (u.carrier m).token why) u).ports ∧
      ((Machine.withdraw m why u).carrier m).power = .active ∧
      ∀ k, k ≠ m → ∃ h, (Machine.withdraw m why u).carrier k = { u.carrier k with holdoff := h } := by
  rw [← noticeNumber_cascade d.cascade m, ← d.cascade.owner m]
  exact withdraw_of_empty hp (d.empty _)

theorem Dark.recalls (d : Dark s u) (h : Exchanging n s u) : Recalled n why s (Machine.withdraw n why u) := by
  obtain ⟨exchange, token⟩ := h
  obtain ⟨ports, active, -⟩ := d.withdraw_run (why := why) exchange
  refine ⟨active, Told.of_ports ?_ ports⟩
  rw [token]
  exact told_post_same _ _ u

theorem Dark.keeps_exchanging (d : Dark s u) (hm : n ≠ m) (h : Exchanging n s u) :
    Exchanging n s (Machine.withdraw m why u) := by
  cases hp : (u.carrier m).power.inExchange with
  | false => rw [withdraw_of_not hp]; exact h
  | true =>
    obtain ⟨-, -, others⟩ := d.withdraw_run (why := why) hp
    obtain ⟨_, record⟩ := others n hm
    rw [Exchanging, record]
    exact h

theorem Dark.keeps_recalled (d : Dark s u) (h : Recalled n why s u) : Recalled n why s (Machine.withdraw m why u) := by
  cases hp : (u.carrier m).power.inExchange with
  | false => rw [withdraw_of_not hp]; exact h
  | true =>
    obtain ⟨active, told⟩ := h
    have hm : n ≠ m := by
      rintro rfl
      exact not_active_of_inExchange hp active
    obtain ⟨ports, -, others⟩ := d.withdraw_run (why := why) hp
    obtain ⟨_, record⟩ := others n hm
    refine ⟨by rw [record]; exact active, Told.of_ports (told.post (.inl ?_)) ports⟩
    exact fun he => hm (Option.some.inj he)

theorem Dark.keeps_asleep (d : Dark s u) (h : (u.carrier n).power = .asleep) :
    ((Machine.withdraw m why u).carrier n).power = .asleep := by
  cases hp : (u.carrier m).power.inExchange with
  | false => rw [withdraw_of_not hp]; exact h
  | true =>
    have hm : n ≠ m := by
      rintro rfl
      rw [h] at hp; cases hp
    obtain ⟨-, -, others⟩ := d.withdraw_run (why := why) hp
    obtain ⟨_, record⟩ := others n hm
    rw [record]
    exact h

end

theorem power_dawned (s : State) (n : Site) : ((dawned s).carrier n).power = (s.carrier n).power :=
  standing_power (standing_dawned s n)

/-- After the withdrawals each carrier that was in an exchange is recalled. -/
theorem quieted_recalls {cause : NightEnd} {n : Site} {s : State} (hc : CarriersOk s) (hn : Machine.night s = false)
    (hp : (s.carrier n).power.inExchange = true) : Recalled n cause.reason s (quieted cause s) := by
  let P (u : State) : Prop := Dark s u ∧ (Exchanging n s u ∨ Recalled n cause.reason s u)
  have turn (m : Site) (u : State) (hu : P u) : P (withdraw m cause.reason u) := by
    obtain ⟨dark, exchanging | recalled⟩ := hu
    · refine ⟨dark.withdraw m _, ?_⟩
      by_cases hm : n = m
      · exact .inr (hm ▸ dark.recalls exchanging)
      · exact .inl (dark.keeps_exchanging hm exchanging)
    · exact ⟨dark.withdraw m _, .inr (dark.keeps_recalled recalled)⟩
  have own (u : State) (hu : P u) : Recalled n cause.reason s (withdraw n cause.reason u) := by
    obtain ⟨dark, exchanging | recalled⟩ := hu
    · exact dark.recalls exchanging
    · exact dark.keeps_recalled recalled
  have start : P (dawned s) := ⟨dark_dawned hc hn, .inl ⟨by rw [power_dawned]; exact hp, dawned_token s n⟩⟩
  exact forList_reaches turn own (fun _ _ hu hr => hu.1.keeps_recalled hr) allSites (dawned s) start
    (.inl (mem_allSites n))

theorem quieted_asleep {cause : NightEnd} {n : Site} {s : State} (hc : CarriersOk s) (hn : Machine.night s = false)
    (hp : (s.carrier n).power = .asleep) : ((quieted cause s).carrier n).power = .asleep := by
  have kept : Dark s (quieted cause s) ∧ ((quieted cause s).carrier n).power = .asleep :=
    forList_induction (fun u => Dark s u ∧ (u.carrier n).power = .asleep) _
      (fun m _ ⟨dark, hu⟩ => ⟨dark.withdraw m cause.reason, dark.keeps_asleep hu⟩) allSites (dawned s)
      ⟨dark_dawned hc hn, (power_dawned s n).trans hp⟩
  exact kept.2

/-! ### The wakes -/

/-- The wakes leave a recalled carrier alone, and the notice about it. -/
theorem nightEnd_recalls {cause : NightEnd} {n : Site} {s : State} (hc : CarriersOk s) (hn : Machine.night s = false)
    (hp : (s.carrier n).power.inExchange = true) : Recalled n cause.reason s (nightEnd cause s) := by
  let P (u : State) : Prop := CarriersOk u ∧ Recalled n cause.reason s u
  have turn (m : Site) (u : State) (hu : P u) : P (wakeCarrier m cause.cls u) := by
    obtain ⟨carriers, active, told⟩ := hu
    refine ⟨(wakeCarrier_shifts m _ u).acts.keeps_carriers carriers, ?_⟩
    by_cases hm : n = m
    · subst hm
      rw [wakeCarrier_of_not (by rw [active]; exact nofun)]
      exact ⟨active, told⟩
    · have beside := wakeCarrier_beside m cause.cls carriers
      have about : (recallOf n cause.reason s).about ≠ some m := fun he => hm (Option.some.inj he)
      exact ⟨by rw [beside.others n hm]; exact active, beside.told _ _ about told⟩
  have start : P (quieted cause s) := ⟨(dark_quieted hc hn).carriers, quieted_recalls hc hn hp⟩
  rw [nightEnd_eq_wakes]
  exact (forList_induction P _ turn (quieted cause s).stack _ start).2

/-- Until its wake a sleeper sleeps on, on a rail that the wake will bring to the part of the class. -/
structure Sleeps (n : Site) (r : RailId) (u : State) : Prop where
  asleep : (u.carrier n).power = .asleep
  rail : (u.carrier n).rail = r
  idle : Idle r u

theorem railOf_cascade {s t : State} (h : Cascade s t) (n : Site) : (t.carrier n).rail = (s.carrier n).rail :=
  congrArg (fun l => l.2.2.2.1) (h.carriers n)

/-- The wakes bring the rail of each sleeper to the part of the class. -/
theorem nightEnd_stands {cause : NightEnd} {n : Site} {s : State} (hc : CarriersOk s) (hn : Machine.night s = false)
    (held : s.ramp.slot ≠ none) (hp : (s.carrier n).power = .asleep) (hi : Idle (s.carrier n).rail s) :
    Stands (s.carrier n).rail cause.cls (nightEnd cause s).ramp := by
  obtain ⟨rails, ramp, stack⟩ := quieted_rails cause s
  have ⟨_, _, _, sleepers⟩ := hc
  have dark : Dark s (quieted cause s) := dark_quieted hc hn
  let r := (s.carrier n).rail
  let P (u : State) : Prop := CarriersOk u ∧ u.ramp.slot ≠ none ∧ (Sleeps n r u ∨ Stands r cause.cls u.ramp)
  have own (u : State) (hu : P u) : Stands r cause.cls (wakeCarrier n cause.cls u).ramp := by
    obtain ⟨-, slot, ⟨asleep, rail, idle⟩ | stands⟩ := hu
    · rw [← rail] at idle ⊢
      exact wakeCarrier_stands slot asleep idle
    · exact (wakeCarrier_lines n r cause.cls slot).stands stands
  have turn (m : Site) (u : State) (hu : P u) : P (wakeCarrier m cause.cls u) := by
    obtain ⟨carriers, slot, before⟩ := hu
    have lines := wakeCarrier_lines m r cause.cls slot
    refine ⟨(wakeCarrier_shifts m _ u).acts.keeps_carriers carriers, lines.held ▸ slot, ?_⟩
    rcases before with sleeps | stands
    · by_cases hm : n = m
      · exact .inr (hm ▸ own u ⟨carriers, slot, .inl sleeps⟩)
      · have same := (wakeCarrier_beside m cause.cls carriers).others n hm
        exact (lines.idle sleeps.idle).imp_left fun idle => ⟨same ▸ sleeps.asleep, same ▸ sleeps.rail, idle⟩
    · exact .inr (lines.stands stands)
  have start : P (quieted cause s) := by
    refine ⟨dark.carriers, by rw [ramp]; exact held, .inl ⟨quieted_asleep hc hn hp, railOf_cascade dark.cascade n, ?_⟩⟩
    rw [Idle, State.rail, rails, ramp]
    exact hi
  rw [nightEnd_eq_wakes, stack]
  exact forList_reaches turn own (fun m u ⟨_, slot, _⟩ hs => (wakeCarrier_lines m r cause.cls slot).stands hs) _ _ start
    (.inl ((sleepers n).2 hp))

theorem stack_eq_nil {s : State} (hc : CarriersOk s) (h : ∀ n, (s.carrier n).power.sleepward = false) :
    s.stack = [] := by
  obtain ⟨-, -, -, sleepers⟩ := hc
  refine List.eq_nil_iff_forall_not_mem.2 fun n hn => ?_
  have awake := h n
  rw [(sleepers n).1 hn] at awake
  cases awake

theorem reason_eq (cause : NightEnd) : (if cause = .window then Reason.window else .hold) = cause.reason := by
  cases cause <;> rfl

theorem stands_iff (cause : NightEnd) (r : RailId) (q : Ramp) :
    (if cause = .window then r ∈ q.ordinary else r ∈ q.urgent) ↔ Stands r cause.cls q := by
  cases cause <;> rfl

/-- Settles O23: the emptied queues, then the withdrawals, then the wakes. -/
theorem nightEndClears : Obligations.NightEndClears := by
  refine ⟨fun before cause s => ⟨fun h => ?_, fun hb hn => ?_, fun hb hn => ?_⟩, fun cause s hn hc => ?_⟩
  · rw [renight, h]; cases before <;> rfl
  · rw [renight, hb, hn]; rfl
  · rw [renight, hb, hn]; rfl
  · intro t why
    have mute : ∀ w, Mute w t := nightEnd_mute hc hn
    have awake (n : Site) : (t.carrier n).power.sleepward = false := (mute _).none n rfl
    have moves : Moves s t := nightEnd_moves cause s
    refine ⟨fun u => (mute u).empty, awake, stack_eq_nil (moves.acts.keeps_carriers hc) awake, moves.cascade,
      fun n hp hl => ?_, fun held n hp => ?_⟩
    · obtain ⟨-, told⟩ := nightEnd_recalls (cause := cause) hc hn hp
      rw [show why = cause.reason from reason_eq cause]
      exact told (by rw [moves.cascade.link]; exact hl)
    · have stands (hi : Idle (s.carrier n).rail s) := (stands_iff cause _ t.ramp).2 (nightEnd_stands hc hn held hp hi)
      exact ⟨fun off => stands (.inl off), fun queued low => stands (.inr ⟨queued, low⟩)⟩

end Sys2Proof.Machine
end

/-! # Answers to a translated request -/

section

namespace Sys2Proof.Machine

variable {t : Tenant} {kind num token : Nat} {rule : Site → State → Answer} {i : Site} {s : State}

/-- A carrier that a local number reaches is provisioned, and the tenant's own (R10). -/
theorem translate_ok (h : translate s t num = .ok i) :
    (s.carrier i).provisioned = true ∧ (s.carrier i).owner = t := by
  rw [translate] at h
  split at h
  · cases h
  · split at h
    · cases h
    · dsimp only at h
      split at h
      · rename_i hp
        cases h
        simpa using hp
      · cases h

/-- A rule that refuses leaves a REPLY and nothing else. -/
theorem handle_refused {code : TenantResult} (h : translate s t num = .ok i) (hr : rule i s = .refused code s) :
    handle t kind num 0 false rule s = post t (replyAbout s t i kind num code) s := by
  rw [handle_rule h, hr]
  rfl

/-- A rule that is taken has its REPLY posted last, with the number that reached the carrier before (R68, R169). -/
theorem handle_taken {u : State} (h : translate s t num = .ok i) (hr : rule i s = .taken u) (hc : Cascade s u) :
    handle t kind num 0 false rule s = post t (replyAbout s t i kind num .ok) u := by
  rw [handle_rule h, hr]
  simp only [Answer.taken, lowestLocal_cascade hc]
  rfl

/-! ### Which answers match (R64) -/

theorem tokenMatches_iff : tokenMatches s i token = true ↔ (s.carrier i).token.toNat = token := by
  rw [tokenMatches, beq_iff_eq]

theorem acceptRule_of_match (hp : (s.carrier i).power = .offered) (ht : (s.carrier i).token.toNat = token) :
    acceptRule token i s = .taken (startDrain i s) := by
  rw [acceptRule, hp, tokenMatches_iff.2 ht]
  rfl

theorem acceptRule_of_mismatch (h : (s.carrier i).power ≠ .offered ∨ (s.carrier i).token.toNat ≠ token) :
    acceptRule token i s = .refused .staleToken s := by
  rw [acceptRule, if_neg]
  rw [Bool.and_eq_true, beq_iff_eq, tokenMatches_iff]
  exact fun ⟨offered, same⟩ => h.elim (· offered) (· same)

/-- The test that DECLINE and DRAINED share. -/
theorem inExchange_and_tokenMatches_iff : ((s.carrier i).power.inExchange && tokenMatches s i token) = true ↔
    ((s.carrier i).power = .offered ∨ (s.carrier i).power = .draining) ∧ (s.carrier i).token.toNat = token := by
  rw [Bool.and_eq_true, inExchange_iff, tokenMatches_iff]

theorem answer_mismatch (h : ((s.carrier i).power ≠ .offered ∧ (s.carrier i).power ≠ .draining) ∨
    (s.carrier i).token.toNat ≠ token) :
    ¬ ((s.carrier i).power.inExchange && tokenMatches s i token) = true := by
  rw [inExchange_and_tokenMatches_iff]
  rintro ⟨exchange, same⟩
  rcases h with ⟨offered, draining⟩ | other
  · exact exchange.elim offered draining
  · exact other same

theorem declineRule_of_mismatch (h : ((s.carrier i).power ≠ .offered ∧ (s.carrier i).power ≠ .draining) ∨
    (s.carrier i).token.toNat ≠ token) : declineRule token i s = .refused .staleToken s := by
  rw [declineRule, if_neg (answer_mismatch h)]

theorem drainedRule_of_mismatch (h : ((s.carrier i).power ≠ .offered ∧ (s.carrier i).power ≠ .draining) ∨
    (s.carrier i).token.toNat ≠ token) : drainedRule token i s = .refused .staleToken s := by
  rw [drainedRule, if_neg (answer_mismatch h)]

theorem drainedRule_of_match (hp : (s.carrier i).power = .offered ∨ (s.carrier i).power = .draining)
    (ht : (s.carrier i).token.toNat = token) : drainedRule token i s = .taken (fallAsleep i s) := by
  rw [drainedRule, if_pos (inExchange_and_tokenMatches_iff.2 ⟨hp, ht⟩)]

/-! ### The requests -/

theorem whenTaken_of_canTake {f : State → State} (htake : (s.port t).canTake = true) : whenTaken t f s = f s :=
  if_pos htake

theorem exec_accept_eq_handle (htake : (s.port t).canTake = true) :
    exec (.accept t num token 0) s = .next (handle t 0x02 num 0 false (acceptRule token) s) :=
  congrArg Host.Outcome.next (whenTaken_of_canTake htake)

theorem exec_decline_eq_handle (htake : (s.port t).canTake = true) :
    exec (.decline t num token 0) s = .next (handle t 0x03 num 0 false (declineRule token) s) :=
  congrArg Host.Outcome.next (whenTaken_of_canTake htake)

theorem exec_drained_eq_handle (htake : (s.port t).canTake = true) :
    exec (.drained t num token 0) s = .next (handle t 0x04 num 0 false (drainedRule token) s) :=
  congrArg Host.Outcome.next (whenTaken_of_canTake htake)

theorem exec_fault_eq_handle (htake : (s.port t).canTake = true) :
    exec (.fault t num 0) s = .next (handle t 0x08 num 0 false faultRule s) :=
  congrArg Host.Outcome.next (whenTaken_of_canTake htake)

end Sys2Proof.Machine
end

/-! # ACCEPT, and the answers that match no offer -/

section

namespace Sys2Proof.Machine

theorem startDrain_cascade (i : Site) (s : State) : Cascade s (startDrain i s) :=
  cascade_modCarrier s i _ fun _ => by rfl

/-- A carrier that starts to drain counts once more at each of its anchors (R65). -/
theorem drainingDependents_draining {i x : Site} {s : State} (hprov : (s.carrier i).provisioned = true)
    (hrole : (s.carrier i).role = .capacity) (hx : x ∈ (s.carrier i).anchors)
    (hp : (s.carrier i).power ≠ .draining) :
    drainingDependents (s.modCarrier i fun c => { c with power := .draining }) x = drainingDependents s x + 1 := by
  refine countP_eq_succ (x := i) ?_ ?_ (fun n hn => ?_) allSites_nodup (mem_allSites i)
  · have draining : dependent (s.modCarrier i fun c => { c with power := .draining }) x i = true := by
      rw [dependent_iff, carrier_modCarrier_same]
      exact ⟨hprov, hrole, hx⟩
    rw [draining, carrier_modCarrier_same]
    rfl
  · rw [beq_eq_false_iff_ne.2 hp, Bool.and_false]
  · simp only [dependent, carrier_modCarrier_ne s _ hn]

/-- Settles O35: the three rules refuse what does not match, and a taken ACCEPT writes one record. -/
theorem answersMatchOrAreRefused : Obligations.AnswersMatchOrAreRefused := by
  intro t num token i s htake h c stale
  rw [exec_accept_eq_handle htake, exec_decline_eq_handle htake, exec_drained_eq_handle htake]
  refine ⟨fun mismatch => ?_, fun mismatch => ⟨?_, ?_⟩, fun offered same => ⟨?_, fun capacity x hx => ?_⟩⟩
  · rw [handle_refused h (acceptRule_of_mismatch mismatch)]
  · rw [handle_refused h (declineRule_of_mismatch mismatch)]
  · rw [handle_refused h (drainedRule_of_mismatch mismatch)]
  · rw [handle_taken h (acceptRule_of_match offered same) (startDrain_cascade i s)]
    rfl
  · obtain ⟨provisioned, -⟩ := translate_ok h
    exact drainingDependents_draining provisioned capacity hx (by rw [offered]; exact nofun)

end Sys2Proof.Machine
end

/-! # Carriers that the moves of a cascade pass by -/

section

namespace Sys2Proof.Machine

/-! ### The record and the queues -/

/-- Record i is c, and i is in no offer queue. -/
structure Rests (i : Site) (c : Carrier) (s : State) : Prop where
  record : s.carrier i = c
  unqueued : Unqueued s i

/-- A record without a need for power and without a ripe time: neither the scheduler nor the exchange has anything to do
on it. -/
structure Unneeding (c : Carrier) : Prop where
  power : c.power.needs = false
  ripeTime : c.ripeTime = none

theorem Power.needs_of_inExchange {p : Power} (h : p.inExchange = true) : p.needs = true := by
  cases p <;> simp [Power.inExchange, Power.needs] at h ⊢

section

variable {i m : Site} {c : Carrier} {s t : State}

theorem Rests.apart (h : Rests i c s) (g : Apart s t) : Rests i c t := by
  refine ⟨?_, fun u => ?_⟩
  · rw [State.carrier, g.carriers]; exact h.record
  · rw [port_of_ports g.ports]; exact h.unqueued u

theorem Rests.post (h : Rests i c s) (u : Tenant) (x : Notice) : Rests i c (post u x s) :=
  ⟨h.record, fun w => by rw [offerQueue_post]; exact h.unqueued w⟩

theorem Rests.modCarrier (h : Rests i c s) (hm : i ≠ m) (f : Carrier → Carrier) : Rests i c (s.modCarrier m f) :=
  ⟨(carrier_modCarrier_ne s f hm).trans h.record, h.unqueued⟩

theorem Rests.ne_of_power (h : Rests i c s) (hp : (s.carrier m).power ≠ c.power) : i ≠ m := by
  rintro rfl
  exact hp (by rw [h.record])

/-- A carrier in a power state that needs power is another one. -/
theorem Rests.ne_of_needs (h : Rests i c s) (hc : Unneeding c) (hp : (s.carrier m).power.needs = true) : i ≠ m :=
  h.ne_of_power fun he => by rw [he, hc.power] at hp; cases hp

/-- The head of a queue is another carrier. -/
theorem Rests.offers {u : Tenant} {rest : List Site} (h : Rests i c s) (head : (s.port u).offerQueue = m :: rest) :
    Rests i c (issueOffer m (s.modPort u fun p => { p with offerQueue := rest })) := by
  have hm : i ≠ m := by
    rintro rfl
    exact h.unqueued u (head ▸ List.mem_cons_self)
  refine ⟨?_, fun w hw => h.unqueued w ((mem_offerQueue_offers head hm).1 hw)⟩
  rw [carrier_issueOffer, if_neg hm]
  exact h.record

theorem Rests.dispatch (h : Rests i c s) (u : Tenant) : Rests i c (dispatch u s) :=
  dispatchUpTo_keeps (fun _ _ _ head hv => hv.offers head) _ s h

/-- A holdoff starts on ACTIVE anchors only (R84). -/
theorem Rests.endOfDrain (h : Rests i c s) (hc : c.power ≠ .active) (anchors : List Site) :
    Rests i c (endOfDrain anchors s) := by
  refine forList_induction (Rests i c) _ (fun x u hu => ?_) anchors s h
  split
  · rename_i settles
    rw [Bool.and_eq_true, beq_iff_eq] at settles
    exact hu.modCarrier (hu.ne_of_power (by rw [settles.2]; exact hc.symm)) _
  · exact hu

theorem Ease.keeps_rests (e : Ease s t) (hc : Unneeding c) (h : Rests i c s) : Rests i c t := by
  cases e with
  | notice u x _ => exact h.post u x
  | leaves m =>
    refine ⟨?_, fun u hu => h.unqueued u (mem_offerQueue_of_unqueue hu)⟩
    rw [carrier_unqueue, h.record]
    split
    · rw [← hc.ripeTime]
    · rfl
  | joins m hr _ =>
    obtain ⟨-, -, active⟩ := ripe_needs hr
    have hm : i ≠ m := h.ne_of_needs hc (by rw [active]; rfl)
    refine ⟨by rw [carrier_joinQueue, if_neg hm]; exact h.record, fun u hu => ?_⟩
    rw [offerQueue_joinQueue] at hu
    split at hu
    · exact (List.mem_append.1 hu).elim (h.unqueued u) fun hi => hm (List.mem_singleton.1 hi)
    · exact h.unqueued u hu
  | offers u m rest head _ => exact h.offers head
  | activates m hp =>
    have hm : i ≠ m := h.ne_of_needs hc (hp.elim Power.needs_of_inExchange fun waking => by rw [waking]; rfl)
    exact ⟨(carrier_enterActive_ne s hm).trans h.record,
      fun u hu => h.unqueued u (mem_offerQueue_of_enterActive hu)⟩
  | settles x _ active => exact h.modCarrier (h.ne_of_needs hc (by rw [active]; rfl)) _

theorem Eases.keeps_rests (e : Eases s t) (hc : Unneeding c) (h : Rests i c s) : Rests i c t :=
  e.keeps (fun _ _ e hu => e.keeps_rests hc hu) h

/-- The wake of another carrier. -/
theorem Rests.enterWaking (h : Rests i c s) (hc : Unneeding c) (hm : i ≠ m) (cls : RampClass) :
    Rests i c (enterWaking m cls s) := by
  have waking : ((s.modCarrier m Carrier.rising).carrier m).power = .waking := by rw [carrier_modCarrier_same]; rfl
  have rises : Rests i c (s.modCarrier m Carrier.rising) := h.modCarrier hm _
  cases hs : (s.rail (s.carrier m).rail).state with
  | on => rw [enterWaking_of_on hs]; exact (powered_eases m _ waking).keeps_rests hc rises
  | hold =>
    rw [enterWaking_of_hold hs]
    have unheld := rises.apart (modRail_apart _ (s.carrier m).rail Rail.unheld)
    exact (powered_eases m ((s.modCarrier m Carrier.rising).modRail (s.carrier m).rail Rail.unheld) waking).keeps_rests
      hc unheld
  | off => rw [enterWaking_of_off hs]; exact rises.apart (queueRail_apart _ _ _)
  | queued => rw [enterWaking_of_queued hs]; exact rises.apart (raiseRail_apart _ _ _)
  | ramping => rw [enterWaking_of_waiting (.inl hs)]; exact rises
  | retryWait => rw [enterWaking_of_waiting (.inr hs)]; exact rises
  | fault => rw [enterWaking_of_fault hs]; exact (h.modCarrier hm _).post _ _

theorem Rests.wakeCarrier (h : Rests i c s) (hc : Unneeding c) (asleep : c.power ≠ .asleep) (m : Site)
    (cls : RampClass) : Rests i c (wakeCarrier m cls s) := by
  by_cases hp : (s.carrier m).power = .asleep
  · rw [wakeCarrier_of_asleep hp]
    have left : Rests i c { s with stack := s.stack.filter (· != m) } := ⟨h.record, h.unqueued⟩
    exact left.enterWaking hc (h.ne_of_power (by rw [hp]; exact asleep.symm)) cls
  · rw [wakeCarrier_of_not hp]
    exact h

theorem Rests.bulkWake (h : Rests i c s) (hc : Unneeding c) (asleep : c.power ≠ .asleep)
    (chosen : State → Site → Bool) (cls : RampClass) : Rests i c (bulkWake chosen cls s) := by
  refine forList_induction (Rests i c) _ (fun m u hu => ?_) s.stack s h
  split
  · exact hu.wakeCarrier hc asleep m cls
  · exact hu

theorem withdrawWhere_eases (chosen : State → Site → Bool) (why : Reason) (s : State) :
    Eases s (withdrawWhere chosen why s) := by
  refine forList_eases _ (fun n u => ?_) allSites s
  split
  · exact withdraw_eases n why u
  · exact .refl

theorem Rests.anchorLeaves (h : Rests i c s) (hc : Unneeding c) (asleep : c.power ≠ .asleep) (x : Site)
    (was : Carrier) : Rests i c (anchorLeaves x was s) := by
  rw [Machine.anchorLeaves]
  split
  · rw [restoration_eq_where]
    exact ((withdrawWhere_eases _ _ _).keeps_rests hc
      ((reevalDependents_eases x s).keeps_rests hc h)).bulkWake hc asleep _ _
  · exact h

end

theorem stack_grant (s : State) : (grant s).stack = s.stack := by
  rcases grant_cases s with ⟨_, _, _, _, h⟩ | ⟨h, _⟩ <;> rw [h]
  rfl

theorem stack_joinRamp (r : RailId) (cls : RampClass) (s : State) : (joinRamp r cls s).stack = s.stack := by
  cases cls <;> rfl

/-- No move of a cascade puts a carrier on the stack. -/
theorem Move.stack_subset {s t : State} (m : Move s t) : t.stack ⊆ s.stack := by
  cases m with
  | ease e => rw [e.rails.2.2]; exact List.Subset.refl _
  | wakes n _ => exact List.filter_sublist.subset
  | queues r cls _ => rw [queueRail, stack_grant, stack_joinRamp]; exact List.Subset.refl _
  | faults n cause _ => exact List.filter_sublist.subset
  | empties t => rw [(emptyQueue_rails t s).2.2]; exact List.Subset.refl _
  | _ => exact List.Subset.refl _

theorem Moves.stack_subset {s t : State} (h : Moves s t) : t.stack ⊆ s.stack :=
  h.keeps (P := fun u => u.stack ⊆ s.stack) (fun _ _ m hu => List.Subset.trans m.stack_subset hu) (List.Subset.refl _)

end Sys2Proof.Machine
end

/-! # DRAINED -/

section

namespace Sys2Proof.Machine

/-! ### The holdoffs of the anchors -/

theorem drainingDependents_holdoff (s : State) (x y : Site) (v : Option Time) :
    drainingDependents (s.modCarrier y fun c => { c with holdoff := v }) x = drainingDependents s x := by
  refine List.countP_congr fun n _ => ?_
  rw [dependent, dependent, carrier_modCarrier]
  split <;> rfl

/-- Each ACTIVE anchor without a draining dependent has its holdoff started now (R84). -/
theorem endOfDrain_settles {x : Site} {anchors : List Site} {s : State} (hx : x ∈ anchors)
    (active : (s.carrier x).power = .active) (drained : drainingDependents s x = 0) :
    ((endOfDrain anchors s).carrier x).holdoff = some s.now := by
  let P (u : State) : Prop := u.now = s.now ∧ (u.carrier x).power = .active ∧ drainingDependents u x = 0
  have starts (u : State) (y : Site) (hu : P u) : P (u.modCarrier y fun c => { c with holdoff := some u.now }) := by
    obtain ⟨now, active, drained⟩ := hu
    refine ⟨now, ?_, by rw [drainingDependents_holdoff]; exact drained⟩
    rw [carrier_modCarrier]
    split <;> exact active
  rw [endOfDrain]
  refine forList_reaches (P := P) (Q := fun u => (u.carrier x).holdoff = some s.now) (x := x) (fun y u hu => ?_)
    (fun u hu => ?_) (fun y u hu hv => ?_) anchors s ⟨rfl, active, drained⟩ (.inl hx)
  · split
    · exact starts u y hu
    · exact hu
  · obtain ⟨now, active, drained⟩ := hu
    rw [if_pos (by simp [active, drained]), carrier_modCarrier_same, now]
  · split
    · rw [carrier_modCarrier]
      split
      · exact congrArg some hu.1
      · exact hv
    · exact hv

/-- An offer leaves a record's holdoff. -/
theorem dispatch_holdoff (t : Tenant) (s : State) (x : Site) :
    ((dispatch t s).carrier x).holdoff = (s.carrier x).holdoff := by
  refine dispatchUpTo_keeps (P := fun u => (u.carrier x).holdoff = (s.carrier x).holdoff)
    (fun u m rest _ hu => ?_) _ s rfl
  rw [carrier_issueOffer]
  split <;> exact hu

/-! ### The move to ASLEEP -/

/-- The state in which a carrier has gone to sleep, before anything follows (R67, R87). -/
def asleepOnTop (i : Site) (s : State) : State := (s.modCarrier i Carrier.slept).withStack (i :: s.stack)

theorem fallAsleep_eq_asleepOnTop (i : Site) (s : State) : fallAsleep i s = needFalls (s.carrier i).rail
    (dispatch (s.carrier i).owner (endOfDrain (s.carrier i).anchors (asleepOnTop i s))) :=
  fallAsleep_eq i s

theorem needFalls_apart (r : RailId) (s : State) : Apart s (needFalls r s) := railLoses_apart .active r s

theorem stack_fallAsleep (i : Site) (s : State) : (fallAsleep i s).stack = i :: s.stack := by
  rw [fallAsleep_eq, endOfDrain_withStack, dispatch_withStack, needFalls_withStack]
  rfl

theorem fallAsleep_cascade (i : Site) (s : State) : Cascade s (fallAsleep i s) := by
  have slept : Cascade s (asleepOnTop i s) :=
    (cascade_modCarrier s i Carrier.slept fun _ => by rfl).trans (cascade_stack _ _)
  rw [fallAsleep_eq_asleepOnTop]
  exact slept.trans (Moves.cascade
    (((endOfDrain_eases _ _).moves.trans (dispatch_eases _ _).moves).trans (needFalls_moves _ _)))

theorem fallAsleep_rests {i : Site} {s : State} (hq : QueuesOk s) (hp : (s.carrier i).power ≠ .active) :
    Rests i (s.carrier i).slept (fallAsleep i s) := by
  have slept : Rests i (s.carrier i).slept (asleepOnTop i s) :=
    ⟨carrier_modCarrier_same s i _, QueuesOk.not_mem_of_power hq hp⟩
  rw [fallAsleep_eq_asleepOnTop]
  exact ((slept.endOfDrain nofun _).dispatch _).apart (needFalls_apart _ _)

theorem asleepOnTop_drained {i x : Site} {s : State}
    (others : ∀ n, n ≠ i → dependent s x n = true → (s.carrier n).power ≠ .draining) :
    drainingDependents (asleepOnTop i s) x = 0 := by
  refine List.countP_eq_zero.2 fun n _ => ?_
  rw [Bool.and_eq_true, beq_iff_eq]
  rintro ⟨isDependent, draining⟩
  by_cases hn : n = i
  · subst hn
    rw [show (asleepOnTop n s).carrier n = (s.carrier n).slept from carrier_modCarrier_same s n _] at draining
    cases draining
  · have same : (asleepOnTop i s).carrier n = s.carrier n := carrier_modCarrier_ne s _ hn
    rw [dependent, same] at isDependent
    exact others n hn isDependent (same ▸ draining)

/-- The holdoff of each ACTIVE anchor without another draining dependent starts (R84). -/
theorem fallAsleep_holdoff {i x : Site} {s : State} (hx : x ∈ (s.carrier i).anchors)
    (active : (s.carrier x).power = .active) (asleep : (s.carrier i).power ≠ .active)
    (others : ∀ n, n ≠ i → dependent s x n = true → (s.carrier n).power ≠ .draining) :
    ((fallAsleep i s).carrier x).holdoff = some s.now := by
  have hxi : x ≠ i := by rintro rfl; exact asleep active
  have same : (asleepOnTop i s).carrier x = s.carrier x := carrier_modCarrier_ne s _ hxi
  rw [fallAsleep_eq_asleepOnTop, State.carrier, (needFalls_apart _ _).carriers, ← State.carrier, dispatch_holdoff]
  exact endOfDrain_settles hx (by rw [same]; exact active) (asleepOnTop_drained others)

/-- Settles O36: the carrier's own move to ASLEEP, then its anchors' holdoffs, the freed slot and its rail. -/
theorem drainedPutsToSleep : Obligations.DrainedPutsToSleep := by
  intro t num i s htake h hp hq
  have inactive : (s.carrier i).power ≠ .active := by rcases hp with hp | hp <;> rw [hp] <;> exact nofun
  have cascade := fallAsleep_cascade i s
  rw [exec_drained_eq_handle htake, handle_taken h (drainedRule_of_match hp rfl) cascade]
  exact ⟨_, rfl, (fallAsleep_rests hq inactive).record, stack_fallAsleep i s,
    fun x hx active others => fallAsleep_holdoff hx active inactive others, cascade⟩

end Sys2Proof.Machine
end

/-! # A tenant FAULT -/

section

namespace Sys2Proof.Machine

/-! ### The record -/

theorem unneeding_downed (cause : FaultCause) (c : Carrier) :
    Unneeding (Carrier.downed cause { c with ripeTime := none }) := ⟨rfl, rfl⟩

theorem downed_rests {i : Site} {s : State} (cause : FaultCause) (hq : QueuesOk s) :
    Rests i (Carrier.downed cause { s.carrier i with ripeTime := none }) (downed i cause s) :=
  ⟨carrier_downed_same i cause s, unqueued_unqueue i hq⟩

/-- What follows the record's own entry to FAULTED: the ends of its drain and its exchange, its rail, its dependents. -/
theorem tenantFault_after {i : Site} {s : State} : Moves (downed i .tenant s) (tenantFault i s) :=
  (((leftDraining_eases _ _ _).moves.trans (leftExchange_eases _ _ _).moves).trans (railLoses_moves _ _ _)).trans
    (anchorLeaves_moves i _ _)

theorem tenantFault_rests {i : Site} {s : State} (hq : QueuesOk s) :
    Rests i (Carrier.downed .tenant { s.carrier i with ripeTime := none }) (tenantFault i s) := by
  have unneeding := unneeding_downed .tenant (s.carrier i)
  have faulted : Rests i _ (takeToFaulted i .tenant s) :=
    (leftExchange_eases _ _ _).keeps_rests unneeding
      ((leftDraining_eases _ _ _).keeps_rests unneeding (downed_rests .tenant hq))
  exact (faulted.apart (railLoses_apart _ _ _)).anchorLeaves unneeding nofun i _

theorem not_mem_stack_downed (i : Site) (cause : FaultCause) (s : State) : i ∉ (downed i cause s).stack :=
  fun hi => absurd (List.of_mem_filter hi) (by simp)

/-! ### The rail of a sleeper -/

theorem sleepersOn_downed {i : Site} {s : State} (cause : FaultCause) (hprov : (s.carrier i).provisioned = true)
    (hp : (s.carrier i).power = .asleep) :
    sleepersOn s (s.carrier i).rail = sleepersOn (downed i cause s) (s.carrier i).rail + 1 := by
  refine countP_eq_succ (x := i) ?_ ?_ (fun m hm => ?_) allSites_nodup (mem_allSites i)
  · simp [hprov, hp]
  · rw [carrier_downed_same]
    simp [Carrier.downed]
  · rw [show (downed i cause s).carrier m = s.carrier m from
      (carrier_modCarrier_ne (unqueue i s) _ hm).trans (carrier_unqueue_ne s hm)]

/-- A sleeper's FAULT has no consequence but on its rail. -/
theorem tenantFault_of_asleep {i : Site} {s : State} (hp : (s.carrier i).power = .asleep) :
    tenantFault i s = sleeperLeaves (s.carrier i).rail (downed i .tenant s) := by
  simp [tenantFault, takeToFaulted_eq, railLoses, leftExchange, leftDraining, anchorLeaves, hp, Power.needs,
    Power.inExchange]

/-- The last sleeper of a held rail takes the rail to OFF (R109, R111). -/
theorem tenantFault_rail_of_asleep {i : Site} {s : State} (hprov : (s.carrier i).provisioned = true)
    (hp : (s.carrier i).power = .asleep) (q : RailId) : (tenantFault i s).rail q =
      if q = (s.carrier i).rail ∧ (s.rail q).state = .hold ∧ (s.rail q).held = true ∧ sleepersOn s q = 1 then
        { s.rail q with state := .off, graceTimer := none, held := false }
      else s.rail q := by
  have hrail : (downed i .tenant s).rail q = s.rail q := rfl
  rw [tenantFault_of_asleep hp, sleeperLeaves_rail, hrail]
  by_cases hq : q = (s.carrier i).rail
  · subst hq
    simp only [sleepersOn_downed .tenant hprov hp, Nat.add_eq_right]
  · simp only [hq, false_and, if_false]

theorem faultRule_of_inService {i : Site} {s : State} (h : (s.carrier i).power.inService = true) :
    faultRule i s = .taken (tenantFault i s) := if_pos h

theorem faultRule_of_not {i : Site} {s : State} (h : ¬ (s.carrier i).power.inService = true) :
    faultRule i s = .refused .wrongState s := if_neg h

/-- Settles O38: the record's own entry to FAULTED puts it where nothing that follows reaches it, and a sleeper's exit
reaches its rail only. -/
theorem faultTakesOutOfService : Obligations.FaultTakesOutOfService := by
  intro t num i s htake h
  rw [exec_fault_eq_handle htake]
  refine ⟨fun out => ?_, fun offline faulted hq => ?_⟩
  · rw [handle_refused h (faultRule_of_not fun inService => ?_)]
    obtain ⟨offline, faulted⟩ := (inService_iff _).1 inService
    exact out.elim offline faulted
  · have inService := (inService_iff _).2 ⟨offline, faulted⟩
    have cascade := (tenantFault_moves i s inService).cascade
    rw [handle_taken h (faultRule_of_inService inService) cascade]
    obtain ⟨record, unqueued⟩ := tenantFault_rests (i := i) hq
    exact ⟨_, rfl, record, fun hi => not_mem_stack_downed i .tenant s (tenantFault_after.stack_subset hi), unqueued,
      cascade, tenantFault_rail_of_asleep (translate_ok h).1⟩

end Sys2Proof.Machine
end

/-! # Coverage restoration -/

section

namespace Sys2Proof.Machine

theorem roleOf_cascade {s t : State} (h : Cascade s t) (n : Site) : (t.carrier n).role = (s.carrier n).role :=
  congrArg (fun l => l.2.2.1) (h.carriers n)

theorem anchorsOf_cascade {s t : State} (h : Cascade s t) (n : Site) : (t.carrier n).anchors = (s.carrier n).anchors :=
  congrArg (fun l => l.2.2.2.2.1) (h.carriers n)

/-! ### A withdrawal and the other carriers -/

theorem not_mem_own_anchors {s : State} (ha : AnchorsOk s) {n : Site} (hp : (s.carrier n).provisioned = true) :
    n ∉ (s.carrier n).anchors := by
  intro hn
  obtain ⟨-, -, -, -, anchors⟩ := ha n hp
  obtain ⟨other, -⟩ := anchors n hn
  exact other rfl

/-- What O13 says of a withdrawal, in a lawful state. -/
theorem withdraw_returned {m : Site} (why : Reason) {u : State} (hc : CarriersOk u) (ha : AnchorsOk u)
    (hp : (u.carrier m).power.inExchange = true) :
    (withdraw m why u).carrier m = (u.carrier m).returned u ∧
      Told (u.carrier m).owner (recallOf m why u) (withdraw m why u) ∧
      ExitFollows m [recallOf m why u] u (withdraw m why u) := by
  obtain ⟨withdrawals, -⟩ := returnsToActive
  obtain ⟨-, exits⟩ := withdrawals m why u
  have provisioned := provisioned_of_power hc (not_offline_of_sleepward (sleepward_of_inExchange hp))
  obtain ⟨record, told, follows⟩ := exits hp hc.2.1 (not_mem_own_anchors ha provisioned)
  refine ⟨record, fun hl => told ?_, follows⟩
  rwa [(withdraw_eases m why u).moves.cascade.link] at hl

/-- A withdrawal lets no carrier into a queue. -/
theorem withdraw_offerQueue_subset {m : Site} {why : Reason} {u : State} (hc : CarriersOk u) (ha : AnchorsOk u)
    (w : Tenant) : ((withdraw m why u).port w).offerQueue ⊆ (u.port w).offerQueue := by
  cases hp : (u.carrier m).power.inExchange with
  | false => rw [withdraw_of_not hp]; exact List.Subset.refl _
  | true =>
    obtain ⟨-, -, -, ports, suffix, -⟩ := withdraw_returned why hc ha hp
    by_cases hw : w = (u.carrier m).owner
    · subst hw; exact suffix.subset
    · rw [ports w hw]; exact List.Subset.refl _

theorem Told.dispatch {t u : Tenant} {y : Notice} {k : Site} {s : State} (h : Told u y s) (about : y.about = some k)
    (out : k ∉ (s.port t).offerQueue) : Told u y (dispatch t s) := by
  refine (dispatchUpTo_keeps (P := fun v => Told u y v ∧ k ∉ (v.port t).offerQueue)
    (fun v m rest head ⟨told, out⟩ => ?_) _ s ⟨h, out⟩).1
  rw [head] at out
  obtain ⟨hk, out⟩ := not_or.1 (mt List.mem_cons.2 out)
  refine ⟨?_, by rw [offerQueue_issueOffer, port_modPort_same]; exact out⟩
  rw [issueOffer_eq]
  refine Told.post (told.of_notices ?_ ?_) (.inl ?_)
  · rw [port_modCarrier, port_modPort]; split <;> rfl
  · rw [port_modCarrier, port_modPort]; split <;> rfl
  · rw [about]
    exact fun he => hk (Option.some.inj he)

theorem returnToActive_ports {m : Site} {u : State} (out : m ∉ (u.port (u.carrier m).owner).offerQueue) :
    (returnToActive m u).ports = u.ports := by
  obtain ⟨ports, -⟩ := leftDraining_records (u.carrier m).power (u.carrier m).anchors (enterActive m u)
  refine ports.trans ?_
  rw [enterActive_of_unqueued out]
  rfl

/-- A withdrawal replaces notices about its own carrier and about queued ones only. -/
theorem withdraw_told {m k : Site} {why : Reason} {u : State} {w : Tenant} {y : Notice} (hc : CarriersOk u) (hk : k ≠ m)
    (about : y.about = some k) (out : Unqueued u k) (h : Told w y u) : Told w y (withdraw m why u) := by
  rw [withdraw]
  split
  · rename_i hp
    have ports : (returnToActive m u).ports = u.ports :=
      returnToActive_ports (unqueued_of_power hc (not_active_of_inExchange hp) _)
    refine Told.dispatch (Told.post (h.of_ports ports) (.inl ?_)) about ?_
    · rw [about]
      exact fun he => hk (Option.some.inj he)
    · rw [offerQueue_post, port_of_ports ports]
      exact out _
  · exact h

/-- What the withdrawal of another carrier does to one that is not queued. -/
structure Passes (n : Site) (u v : State) : Prop where
  record : ∃ h, v.carrier n = { u.carrier n with holdoff := h }
  unqueued : Unqueued v n
  told : ∀ w y, y.about = some n → Told w y u → Told w y v

theorem withdraw_passes {m n : Site} (why : Reason) {u : State} (hc : CarriersOk u) (ha : AnchorsOk u) (hn : n ≠ m)
    (out : Unqueued u n) : Passes n u (withdraw m why u) where
  record := by
    cases hp : (u.carrier m).power.inExchange with
    | false => rw [withdraw_of_not hp]; exact ⟨_, rfl⟩
    | true =>
      obtain ⟨-, -, others, -⟩ := withdraw_returned why hc ha hp
      obtain ⟨-, kept | ⟨queued, -⟩⟩ := others n hn
      · exact ⟨_, kept⟩
      · exact absurd queued (out _)
  unqueued w hw := out w (withdraw_offerQueue_subset hc ha w hw)
  told _ _ about h := withdraw_told hc hn about out h

/-! ### What holds all the time -/

/-- A carrier that restoration for x leaves alone: a COVERAGE carrier, and one in OFFERED, DRAINING or ASLEEP that is no
dependent of x or has another ACTIVE anchor. -/
def Spared (x : Site) (s : State) (n : Site) : Prop :=
  (s.carrier n).role = .coverage ∨ (s.carrier n).power.sleepward = true ∧ restorable x s n = false

/-- Restoration for x has begun in s, and has come to u. -/
structure Restoring (x : Site) (s u : State) : Prop where
  carriers : CarriersOk u
  anchors : AnchorsOk u
  cascade : Cascade s u
  spared : ∀ n, Spared x s n → (u.carrier n).power = (s.carrier n).power

theorem restorable_iff {x n : Site} {s : State} :
    restorable x s n = true ↔ dependent s x n = true ∧ someAnchorActive s n = false := by
  rw [restorable, Bool.and_eq_true, Bool.not_eq_true']

theorem not_spared_of_restorable {x n : Site} {s : State} (h : restorable x s n = true) : ¬ Spared x s n := by
  obtain ⟨isDependent, -⟩ := restorable_iff.1 h
  obtain ⟨-, capacity, -⟩ := (dependent_iff s x n).1 isDependent
  rintro (coverage | ⟨-, spared⟩)
  · rw [capacity] at coverage; cases coverage
  · rw [h] at spared; cases spared

section

variable {x m n : Site} {s u : State}

theorem Restoring.someAnchorActive_eq (h : Restoring x s u) (hd : dependent s x n = true) :
    someAnchorActive u n = someAnchorActive s n := by
  rw [someAnchorActive, someAnchorActive, anchorsOf_cascade h.cascade]
  refine any_congr_left fun y hy => ?_
  obtain ⟨provisioned, -⟩ := (dependent_iff u x n).1 (by rw [h.cascade.dependent]; exact hd)
  obtain ⟨-, -, -, -, anchors⟩ := h.anchors n provisioned
  obtain ⟨-, -, coverage, -⟩ := anchors y (by rw [anchorsOf_cascade h.cascade]; exact hy)
  rw [h.spared y (.inl (by rw [← roleOf_cascade h.cascade]; exact coverage))]

/-- The choice does not change on the way. -/
theorem Restoring.restorable_eq (h : Restoring x s u) (n : Site) : restorable x u n = restorable x s n := by
  rw [restorable, restorable, h.cascade.dependent]
  cases hd : dependent s x n with
  | false => rfl
  | true => rw [h.someAnchorActive_eq hd]

theorem Restoring.unqueued (h : Restoring x s u) (hn : Spared x s n) : Unqueued u n := by
  intro w hw
  obtain ⟨-, -, capacity, active⟩ := h.carriers.of_queued hw
  have same := h.spared n hn
  rcases hn with coverage | ⟨sleepward, -⟩
  · rw [roleOf_cascade h.cascade, coverage] at capacity; cases capacity
  · rw [← same, active] at sleepward; cases sleepward

theorem Restoring.withdraw (h : Restoring x s u) (hm : restorable x s m = true) :
    Restoring x s (withdraw m .coverage u) where
  carriers := (withdraw_shifts m _ u).acts.keeps_carriers h.carriers
  anchors := (withdraw_shifts m _ u).acts.keeps_anchors h.anchors
  cascade := h.cascade.trans (withdraw_eases m _ u).moves.cascade
  spared n hn := by
    have other : n ≠ m := by rintro rfl; exact not_spared_of_restorable hm hn
    obtain ⟨_, record⟩ := (withdraw_passes .coverage h.carriers h.anchors other (h.unqueued hn)).record
    rw [record]
    exact h.spared n hn

theorem Restoring.wake (h : Restoring x s u) (hm : restorable x s m = true) :
    Restoring x s (wakeCarrier m .urgent u) where
  carriers := (wakeCarrier_shifts m _ u).acts.keeps_carriers h.carriers
  anchors := (wakeCarrier_shifts m _ u).acts.keeps_anchors h.anchors
  cascade := h.cascade.trans (wakeCarrier_moves m _ u).cascade
  spared n hn := by
    have other : n ≠ m := by rintro rfl; exact not_spared_of_restorable hm hn
    rw [(wakeCarrier_beside m .urgent h.carriers).others n other]
    exact h.spared n hn

end

/-! ### The two loops -/

/-- A loop over the carriers that restoration for x chooses. -/
def forChosen (x : Site) (f : Site → State → State) (l : List Site) (s : State) : State :=
  forList l (fun m u => if restorable x u m then f m u else u) s

/-- The state in which the exchanges are withdrawn, before any sleeper is woken (R97). -/
def recalled (x : Site) (s : State) : State := forChosen x (fun m => withdraw m .coverage) allSites s

theorem restoration_eq_wakes (x : Site) (s : State) :
    restoration x s = forChosen x (fun m => wakeCarrier m .urgent) (recalled x s).stack (recalled x s) := rfl

section

variable {x : Site} {s : State} {f : Site → State → State} {P Q : State → Prop}

theorem forChosen_turn (advance : ∀ m u, restorable x s m = true → Restoring x s u → Restoring x s (f m u))
    (turn : ∀ m u, restorable x s m = true → Restoring x s u → P u → P (f m u)) (m : Site) {u : State}
    (hu : Restoring x s u) (hp : P u) : Restoring x s (if restorable x u m then f m u else u) ∧
      P (if restorable x u m then f m u else u) := by
  split
  · rename_i hm
    rw [hu.restorable_eq] at hm
    exact ⟨advance m u hm hu, turn m u hm hu hp⟩
  · exact ⟨hu, hp⟩

/-- What every chosen turn keeps, the loop keeps. -/
theorem forChosen_keeps (advance : ∀ m u, restorable x s m = true → Restoring x s u → Restoring x s (f m u))
    (turn : ∀ m u, restorable x s m = true → Restoring x s u → P u → P (f m u)) (l : List Site) {v : State}
    (hv : Restoring x s v) (hp : P v) : Restoring x s (forChosen x f l v) ∧ P (forChosen x f l v) :=
  forList_induction (fun u => Restoring x s u ∧ P u) _ (fun m _ hu => forChosen_turn advance turn m hu.1 hu.2) l v
    ⟨hv, hp⟩

/-- The turn of a chosen carrier makes Q, and every other turn keeps it, P holding throughout. -/
theorem forChosen_reaches (advance : ∀ m u, restorable x s m = true → Restoring x s u → Restoring x s (f m u))
    (turn : ∀ m u, restorable x s m = true → Restoring x s u → P u → P (f m u)) {n : Site}
    (chosen : restorable x s n = true) (own : ∀ u, Restoring x s u → P u → Q (f n u))
    (keep : ∀ m u, restorable x s m = true → Restoring x s u → P u → Q u → Q (f m u)) {l : List Site} (hn : n ∈ l)
    {v : State} (hv : Restoring x s v) (hp : P v) : Q (forChosen x f l v) := by
  refine forList_reaches (P := fun u => Restoring x s u ∧ P u) (x := n)
    (fun m _ hu => forChosen_turn advance turn m hu.1 hu.2) (fun u hu => ?_) (fun m u hu hq => ?_) l v ⟨hv, hp⟩
    (.inl hn)
  · rw [if_pos ((hu.1.restorable_eq n).trans chosen)]
    exact own u hu.1 hu.2
  · split
    · rename_i hm
      rw [hu.1.restorable_eq] at hm
      exact keep m u hm hu.1 hu.2 hq
    · exact hq

end

section

variable {x n : Site} {s : State}

theorem Restoring.start (x : Site) (hc : CarriersOk s) (ha : AnchorsOk s) : Restoring x s s :=
  ⟨hc, ha, .refl s, fun _ _ => rfl⟩

theorem restoring_recalled (x : Site) (hc : CarriersOk s) (ha : AnchorsOk s) : Restoring x s (recalled x s) :=
  (forChosen_keeps (P := fun _ => True) (fun _ _ hm h => h.withdraw hm) (fun _ _ _ _ => id) allSites
    (.start x hc ha) trivial).1

theorem restoring_restoration (x : Site) (hc : CarriersOk s) (ha : AnchorsOk s) :
    Restoring x s (restoration x s) := by
  rw [restoration_eq_wakes]
  exact (forChosen_keeps (P := fun _ => True) (fun _ _ hm h => h.wake hm) (fun _ _ _ _ => id) _
    (restoring_recalled x hc ha) trivial).1

/-! ### The withdrawals -/

theorem Passes.exchanging {u v : State} (h : Passes n u v) (hx : Exchanging n s u) : Exchanging n s v := by
  obtain ⟨_, record⟩ := h.record
  rw [Exchanging, record]
  exact hx

theorem Passes.recalled {u v : State} {why : Reason} (h : Passes n u v) (hr : Recalled n why s u) :
    Recalled n why s v := by
  obtain ⟨_, record⟩ := h.record
  obtain ⟨active, told⟩ := hr
  exact ⟨by rw [record]; exact active, h.told _ _ rfl told⟩

/-- A carrier in the exchange in which it was is withdrawn, and one that was withdrawn is left alone. -/
theorem Restoring.recalls {u : State} (h : Restoring x s u)
    (hu : Exchanging n s u ∨ Recalled n .coverage s u) : Recalled n .coverage s (Machine.withdraw n .coverage u) := by
  rcases hu with ⟨exchange, token⟩ | ⟨active, told⟩
  · obtain ⟨record, told, -⟩ := withdraw_returned .coverage h.carriers h.anchors exchange
    refine ⟨by rw [record]; rfl, ?_⟩
    rwa [h.cascade.owner, recallOf, noticeNumber_cascade h.cascade, token] at told
  · rw [withdraw_of_not (by rw [active]; rfl)]
    exact ⟨active, told⟩

/-- Carrier n is in no queue, and in the exchange in which it was in s or recalled from it. -/
def Recalling (n : Site) (s u : State) : Prop := Unqueued u n ∧ (Exchanging n s u ∨ Recalled n .coverage s u)

theorem Restoring.keeps_recalling {u : State} (h : Restoring x s u) (m : Site) (hu : Recalling n s u) :
    Recalling n s (Machine.withdraw m .coverage u) := by
  obtain ⟨out, before⟩ := hu
  refine ⟨fun w hw => out w (withdraw_offerQueue_subset h.carriers h.anchors w hw), ?_⟩
  by_cases hm : n = m
  · exact .inr (hm ▸ h.recalls before)
  · have passes := withdraw_passes .coverage h.carriers h.anchors hm out
    exact before.imp passes.exchanging passes.recalled

/-- After the withdrawals each chosen carrier that was in an exchange is recalled. -/
theorem recalled_recalls (hc : CarriersOk s) (ha : AnchorsOk s) (chosen : restorable x s n = true)
    (hp : (s.carrier n).power.inExchange = true) : Recalled n .coverage s (recalled x s) := by
  have out : Unqueued s n := unqueued_of_power hc (not_active_of_inExchange hp)
  refine forChosen_reaches (P := Recalling n s) (fun _ _ hm h => h.withdraw hm)
    (fun m u _ h hu => h.keeps_recalling m hu) chosen (fun u h hu => h.recalls hu.2) (fun m u _ h hu hr => ?_) (mem_allSites n) (.start x hc ha)
    ⟨out, .inl ⟨hp, rfl⟩⟩
  by_cases hm : n = m
  · exact hm ▸ h.recalls (.inr hr)
  · exact (withdraw_passes .coverage h.carriers h.anchors hm hu.1).recalled hr

theorem recalled_asleep (hc : CarriersOk s) (ha : AnchorsOk s) (x : Site) (hp : (s.carrier n).power = .asleep) :
    ((recalled x s).carrier n).power = .asleep := by
  refine (forChosen_keeps (P := fun u => (u.carrier n).power = .asleep) (fun _ _ hm h => h.withdraw hm)
    (fun m u _ restoring asleep => ?_) allSites (.start x hc ha) hp).2
  by_cases hm : n = m
  · subst hm
    rw [withdraw_of_not (by rw [asleep]; rfl)]
    exact asleep
  · have out : Unqueued u n := unqueued_of_power restoring.carriers (by rw [asleep]; exact nofun)
    obtain ⟨_, record⟩ := (withdraw_passes .coverage restoring.carriers restoring.anchors hm out).record
    rw [record]
    exact asleep

theorem recalled_rails (x : Site) (s : State) :
    (recalled x s).rails = s.rails ∧ (recalled x s).ramp = s.ramp ∧ (recalled x s).stack = s.stack :=
  (withdrawWhere_eases (restorable x) .coverage s).rails

/-! ### The wakes -/

/-- The wakes leave a recalled carrier alone, and the notice about it. -/
theorem restoration_recalls (hc : CarriersOk s) (ha : AnchorsOk s) (chosen : restorable x s n = true)
    (hp : (s.carrier n).power.inExchange = true) : Recalled n .coverage s (restoration x s) := by
  rw [restoration_eq_wakes]
  refine (forChosen_keeps (fun _ _ hm h => h.wake hm) (fun m u _ restoring hu => ?_) _ (restoring_recalled x hc ha)
    (recalled_recalls hc ha chosen hp)).2
  obtain ⟨active, told⟩ := hu
  by_cases hm : n = m
  · subst hm
    rw [wakeCarrier_of_not (by rw [active]; exact nofun)]
    exact ⟨active, told⟩
  · have beside := wakeCarrier_beside m .urgent restoring.carriers
    exact ⟨by rw [beside.others n hm]; exact active, beside.told _ _ (fun he => hm (Option.some.inj he)) told⟩

theorem stands_urgent {r : RailId} {q : Ramp} : Stands r .urgent q ↔ r ∈ q.urgent := Iff.rfl

/-- The slot is held, and sleeper n is still to be woken or its rail r stands in the urgent part. -/
def Lifting (n : Site) (r : RailId) (u : State) : Prop :=
  u.ramp.slot ≠ none ∧ (Sleeps n r u ∨ Stands r .urgent u.ramp)

theorem Lifting.own {r : RailId} {u : State} (h : Lifting n r u) :
    Stands r .urgent (wakeCarrier n .urgent u).ramp := by
  obtain ⟨slot, ⟨asleep, rail, idle⟩ | stands⟩ := h
  · rw [← rail] at idle ⊢
    exact wakeCarrier_stands slot asleep idle
  · exact (wakeCarrier_lines n r .urgent slot).stands stands

theorem Lifting.wake {r : RailId} {u : State} (h : Lifting n r u) (hc : CarriersOk u) (m : Site) :
    Lifting n r (wakeCarrier m .urgent u) := by
  obtain ⟨slot, before⟩ := h
  have lines := wakeCarrier_lines m r .urgent slot
  refine ⟨lines.held ▸ slot, ?_⟩
  by_cases hm : n = m
  · exact .inr (hm ▸ Lifting.own ⟨slot, before⟩)
  · have same := (wakeCarrier_beside m .urgent hc).others n hm
    rcases before with sleeps | stands
    · exact (lines.idle sleeps.idle).imp_left fun idle => ⟨same ▸ sleeps.asleep, same ▸ sleeps.rail, idle⟩
    · exact .inr (lines.stands stands)

theorem lifting_recalled (x : Site) (hc : CarriersOk s) (ha : AnchorsOk s) (held : s.ramp.slot ≠ none)
    (hp : (s.carrier n).power = .asleep) (hi : Idle (s.carrier n).rail s) :
    Lifting n (s.carrier n).rail (recalled x s) := by
  obtain ⟨rails, ramp, -⟩ := recalled_rails x s
  refine ⟨by rw [ramp]; exact held,
    .inl ⟨recalled_asleep hc ha x hp, railOf_cascade (restoring_recalled x hc ha).cascade n, ?_⟩⟩
  rw [Idle, State.rail, rails, ramp]
  exact hi

/-- The wakes bring the rail of each chosen sleeper to the urgent part (R98). -/
theorem restoration_stands (hc : CarriersOk s) (ha : AnchorsOk s) (chosen : restorable x s n = true)
    (held : s.ramp.slot ≠ none) (hp : (s.carrier n).power = .asleep) (hi : Idle (s.carrier n).rail s) :
    Stands (s.carrier n).rail .urgent (restoration x s).ramp := by
  obtain ⟨-, -, stack⟩ := recalled_rails x s
  have stacked : n ∈ (recalled x s).stack := by rw [stack]; exact (hc.mem_stack n).2 hp
  rw [restoration_eq_wakes]
  exact forChosen_reaches (P := Lifting n (s.carrier n).rail) (Q := fun u => Stands (s.carrier n).rail .urgent u.ramp)
    (fun _ _ hm h => h.wake hm) (fun m _ _ h hu => hu.wake h.carriers m) chosen (fun _ _ hu => hu.own)
    (fun m _ _ _ hu hs => (wakeCarrier_lines m _ .urgent hu.1).stands hs) stacked (restoring_recalled x hc ha)
    (lifting_recalled x hc ha held hp hi)

end

/-- Settles O34: the choice is fixed from the start, since no COVERAGE carrier changes its state on the way; the chosen
carriers are withdrawn, then woken, and the others passed by. -/
theorem restorationSparesTheCovered : Obligations.RestorationSparesTheCovered := by
  intro x s hc ha _ fit t
  have restoring : Restoring x s t := restoring_restoration x hc ha
  refine ⟨fun n hd bare => ?_, fun n sleepward covered => restoring.spared n (.inr ⟨sleepward, ?_⟩),
    fun n coverage => restoring.spared n (.inl coverage),
    fun n hd bare => ⟨fun exchange link => ?_, fun asleep held => ?_⟩⟩
  · refine Bool.eq_false_iff.2 fun sleepward => ?_
    have covered := restoration_covered hc ha (fun u hn => fit u n hn) hd sleepward
    rw [restoring.someAnchorActive_eq hd, bare] at covered
    cases covered
  · rw [restorable, Bool.and_eq_false_iff, Bool.not_eq_false']
    exact covered
  · obtain ⟨-, told⟩ := restoration_recalls hc ha (restorable_iff.2 ⟨hd, bare⟩) exchange
    exact told (by rw [restoring.cascade.link]; exact link)
  · exact fun idle => stands_urgent.1 (restoration_stands hc ha (restorable_iff.2 ⟨hd, bare⟩) held asleep idle)

end Sys2Proof.Machine
end

/-! # Carriers and rails in agreement

The law of power looks at each rail apart: what stands on it, its state, its place in the ramp queue. `Cell` is the law at
one rail. Inside an event it may fail at one rail, the dark one, for the carriers that stand on it, and at one, the bare
one, for its need; `Agrees` names the two. -/

section

namespace Sys2Proof.Machine

/-! ### What the law of power looks at -/

/-- ACTIVE, OFFERED and DRAINING: where a carrier serves. -/
def Power.serves : Power → Bool
  | .active => true
  | .offered => true
  | .draining => true
  | .offline => false
  | .asleep => false
  | .waking => false
  | .faulted => false

theorem serves_iff (p : Power) : p.serves = true ↔ p = .active ∨ p.inExchange = true := by
  cases p <;> simp [Power.serves, Power.inExchange]

theorem needs_iff (p : Power) : p.needs = true ↔ p.serves = true ∨ p = .waking := by
  cases p <;> simp [Power.serves, Power.needs]

/-- What a carrier draws: the rail on which it needs power, and its power state there (R4, R105). -/
def Carrier.draw (c : Carrier) : Option (RailId × Power) :=
  if c.provisioned && c.power.needs then some (c.rail, c.power) else none

/-- What the law of power looks at in a rail. -/
def Rail.supply (x : Rail) : RailState × Bool := (x.state, x.powerGood)

/-- A carrier in a power state may stand on a rail in a state (R89, R101). -/
def Fed (p : Power) (x : RailState) : Prop :=
  (p.serves = true → x = .on) ∧ (p = .waking → x = .queued ∨ x = .ramping ∨ x = .retryWait)

/-- Some carrier needs the rail. -/
def Needed (r : RailId) (s : State) : Prop := ∃ n p, (s.carrier n).draw = some (r, p)

theorem draw_eq_some_iff {c : Carrier} {r : RailId} {p : Power} : c.draw = some (r, p) ↔
    c.provisioned = true ∧ c.rail = r ∧ c.power.needs = true ∧ c.power = p := by
  rw [Carrier.draw]
  split
  · rename_i h
    rw [Bool.and_eq_true] at h
    simp [h]
  · rename_i h
    rw [Bool.and_eq_true] at h
    simp only [reduceCtorEq, false_iff]
    exact fun ⟨provisioned, _, needs, _⟩ => h ⟨provisioned, needs⟩

theorem draw_of_needs {c : Carrier} (hp : c.provisioned = true) (hn : c.power.needs = true) :
    c.draw = some (c.rail, c.power) := draw_eq_some_iff.2 ⟨hp, rfl, hn, rfl⟩

theorem draw_of_not_needs {c : Carrier} (h : c.power.needs = false) : c.draw = none := by
  rw [Carrier.draw, h, Bool.and_false]
  rfl

/-- What a carrier draws depends on three fields. -/
theorem draw_congr {c d : Carrier} (hp : c.provisioned = d.provisioned) (hr : c.rail = d.rail)
    (hpow : c.power = d.power) : c.draw = d.draw := by
  rw [Carrier.draw, Carrier.draw, hp, hr, hpow]

theorem needCount_pos_iff {s : State} {r : RailId} : 0 < needCount s r ↔ Needed r s := by
  simp only [needCount, List.countP_pos_iff, Needed, draw_eq_some_iff, Bool.and_eq_true, beq_iff_eq]
  exact ⟨fun ⟨n, _, ⟨hp, hr⟩, hn⟩ => ⟨n, _, hp, hr, hn, rfl⟩,
    fun ⟨n, _, hp, hr, hn, _⟩ => ⟨n, mem_allSites n, ⟨hp, hr⟩, hn⟩⟩

theorem needCount_eq_zero_iff {s : State} {r : RailId} : needCount s r = 0 ↔ ¬ Needed r s := by
  rw [← needCount_pos_iff, Nat.not_lt, Nat.le_zero]

/-! ### The law at one rail -/

/-- The law of power at rail r, but for what stands on it where it is dark and for its need where it is bare. -/
structure Cell (dark bare : Prop) (r : RailId) (s : State) : Prop where
  queued : r ∈ s.ramp.queue → (s.rail r).state = .queued
  fed : ¬ dark → ∀ n p, (s.carrier n).draw = some (r, p) → Fed p (s.rail r).state
  needed : ¬ bare → (s.rail r).state = .on ∨ (s.rail r).state = .queued → Needed r s
  good : (s.rail r).state = .on ∨ (s.rail r).state = .hold → (s.rail r).powerGood = true

/-- The law of power, but for what stands on the dark rail and for the need of the bare one. -/
def Agrees (dark bare : Option RailId) (s : State) : Prop := ∀ r, Cell (dark = some r) (bare = some r) r s

theorem powerOk_of_agrees {s : State} (h : Agrees none none s) : PowerOk s := by
  refine ⟨fun n hp => ?_, fun r => ⟨fun hs => needCount_pos_iff.2 ((h r).needed nofun hs), (h r).good⟩⟩
  have fed (hn : (s.carrier n).power.needs = true) : Fed (s.carrier n).power (s.rail (s.carrier n).rail).state :=
    (h _).fed nofun n _ (draw_of_needs hp hn)
  rw [← serves_iff]
  exact ⟨fun hs => (fed ((needs_iff _).2 (.inl hs))).1 hs, fun hw => (fed ((needs_iff _).2 (.inr hw))).2 hw⟩

theorem agrees_of_laws {s : State} (hr : RampOk s) (hp : PowerOk s) : Agrees none none s := by
  obtain ⟨-, -, ramp⟩ := hr
  obtain ⟨stands, rails⟩ := hp
  intro r
  refine ⟨(ramp r).1.1, fun _ n p hd => ?_, fun _ hs => needCount_pos_iff.1 ((rails r).1 hs), (rails r).2⟩
  obtain ⟨provisioned, rfl, -, rfl⟩ := draw_eq_some_iff.1 hd
  rw [Fed, serves_iff]
  exact stands n provisioned

/-- No carrier that needs power may stand on a rail in OFF, HOLD or FAULT. -/
theorem not_fed {p : Power} {x : RailState} (hp : p.needs = true) (hx : x = .off ∨ x = .hold ∨ x = .fault) :
    ¬ Fed p x := by
  rintro ⟨serves, waking⟩
  rcases (needs_iff p).1 hp with hs | hw
  · rw [serves hs] at hx
    simp at hx
  · rcases waking hw with h | h | h <;> rw [h] at hx <;> simp at hx

theorem Cell.not_needed {dark bare : Prop} {r : RailId} {s : State} (h : Cell dark bare r s) (hd : ¬ dark)
    (hs : (s.rail r).state = .off ∨ (s.rail r).state = .hold ∨ (s.rail r).state = .fault) : ¬ Needed r s := by
  rintro ⟨n, p, draw⟩
  obtain ⟨-, -, needs, rfl⟩ := draw_eq_some_iff.1 draw
  exact not_fed needs hs (h.fed hd n _ draw)

theorem Cell.not_mem_queue {dark bare : Prop} {r : RailId} {s : State} (h : Cell dark bare r s)
    (hs : (s.rail r).state ≠ .queued) : r ∉ s.ramp.queue := fun hr => hs (h.queued hr)

/-- Draws, state and line of rail r are as they were, and it has not come into the ramp queue. -/
structure SameAt (r : RailId) (s t : State) : Prop where
  draw : ∀ n p, (t.carrier n).draw = some (r, p) ↔ (s.carrier n).draw = some (r, p)
  supply : (t.rail r).supply = (s.rail r).supply
  queue : r ∈ t.ramp.queue → r ∈ s.ramp.queue

theorem SameAt.cell {dark bare dark' bare' : Prop} {r : RailId} {s t : State} (h : SameAt r s t)
    (c : Cell dark bare r s) (hd : dark → dark') (hb : bare → bare') : Cell dark' bare' r t := by
  have state : (t.rail r).state = (s.rail r).state := congrArg Prod.fst h.supply
  have powerGood : (t.rail r).powerGood = (s.rail r).powerGood := congrArg Prod.snd h.supply
  refine ⟨fun hr => ?_, fun nd n p draw => ?_, fun nb hs => ?_, fun hs => ?_⟩
  · rw [state]; exact c.queued (h.queue hr)
  · rw [state]; exact c.fed (mt hd nd) n p ((h.draw n p).1 draw)
  · rw [state] at hs
    obtain ⟨n, p, draw⟩ := c.needed (mt hb nb) hs
    exact ⟨n, p, (h.draw n p).2 draw⟩
  · rw [state] at hs
    rw [powerGood]; exact c.good hs

/-! ### Changes at no rail and at one -/

/-- Nothing that the law of power looks at has changed, but that rails may have left the ramp queue or moved in it. -/
structure Steady (s t : State) : Prop where
  draw : ∀ n, (t.carrier n).draw = (s.carrier n).draw
  supply : ∀ r, (t.rail r).supply = (s.rail r).supply
  queue : t.ramp.queue ⊆ s.ramp.queue

section

variable {dark bare dark' bare' : Option RailId} {r : RailId} {n : Site} {s t : State}

theorem Steady.sameAt (h : Steady s t) (r : RailId) : SameAt r s t :=
  ⟨fun n p => by rw [h.draw n], h.supply r, fun hr => h.queue hr⟩

theorem Agrees.steady (h : Agrees dark bare s) (k : Steady s t) : Agrees dark bare t :=
  fun r => (k.sameAt r).cell (h r) id id

/-- A change at one rail; the exemptions may begin or end there. -/
theorem Agrees.change (r : RailId) (h : Agrees dark bare s) (same : ∀ q, q ≠ r → SameAt q s t)
    (cell : Cell (dark' = some r) (bare' = some r) r t) (hd : ∀ q, q ≠ r → dark = some q → dark' = some q)
    (hb : ∀ q, q ≠ r → bare = some q → bare' = some q) : Agrees dark' bare' t := by
  intro q
  by_cases hq : q = r
  · subst hq; exact cell
  · exact (same q hq).cell (h q) (hd q hq) (hb q hq)

theorem steady_modCarrier {f : Carrier → Carrier} (h : (f (s.carrier n)).draw = (s.carrier n).draw) :
    Steady s (s.modCarrier n f) := by
  refine ⟨fun m => ?_, fun _ => rfl, List.Subset.refl _⟩
  rw [carrier_modCarrier]
  split
  · rename_i hm; subst hm; exact h
  · rfl

theorem steady_modRail {f : Rail → Rail} (h : (f (s.rail r)).supply = (s.rail r).supply) :
    Steady s (s.modRail r f) := by
  refine ⟨fun _ => rfl, fun q => ?_, List.Subset.refl _⟩
  rw [rail_modRail]
  split
  · rename_i hq; subst hq; exact h
  · rfl

theorem Steady.refl (s : State) : Steady s s := ⟨fun _ => rfl, fun _ => rfl, List.Subset.refl _⟩

theorem Steady.trans {u : State} (h : Steady s t) (k : Steady t u) : Steady s u :=
  ⟨fun n => (k.draw n).trans (h.draw n), fun r => (k.supply r).trans (h.supply r), List.Subset.trans k.queue h.queue⟩

theorem sameAt_modRail {f : Rail → Rail} {q : RailId} (hq : q ≠ r) : SameAt q s (s.modRail r f) :=
  ⟨fun _ _ => .rfl, by rw [rail_modRail_ne s f hq], id⟩

/-- A carrier's record is written, and it stays on its rail: at the other rails nothing has changed. -/
theorem sameAt_modCarrier {f : Carrier → Carrier} {q : RailId} (hf : (f (s.carrier n)).rail = (s.carrier n).rail)
    (hq : q ≠ (s.carrier n).rail) : SameAt q s (s.modCarrier n f) := by
  refine ⟨fun m p => ?_, rfl, id⟩
  rw [carrier_modCarrier]
  split
  · rename_i hm
    subst hm
    rw [draw_eq_some_iff, draw_eq_some_iff, hf]
    exact ⟨fun ⟨_, e, _⟩ => absurd e.symm hq, fun ⟨_, e, _⟩ => absurd e.symm hq⟩
  · rfl

/-- A rail is written. -/
theorem Agrees.modRail {f : Rail → Rail} (h : Agrees dark bare s)
    (queued : r ∈ s.ramp.queue → (f (s.rail r)).state = .queued)
    (fed : dark' ≠ some r → ∀ n p, (s.carrier n).draw = some (r, p) → Fed p (f (s.rail r)).state)
    (needed : bare' ≠ some r → (f (s.rail r)).state = .on ∨ (f (s.rail r)).state = .queued → Needed r s)
    (good : (f (s.rail r)).state = .on ∨ (f (s.rail r)).state = .hold → (f (s.rail r)).powerGood = true)
    (hd : ∀ q, q ≠ r → dark = some q → dark' = some q) (hb : ∀ q, q ≠ r → bare = some q → bare' = some q) :
    Agrees dark' bare' (s.modRail r f) := by
  refine h.change r (fun q => sameAt_modRail) ⟨?_, ?_, ?_, ?_⟩ hd hb <;> rw [rail_modRail_same]
  · exact queued
  · exact fed
  · exact needed
  · exact good

/-- A rail without a need comes to a state in which it needs none. -/
theorem Agrees.modRail_unneeded {f : Rail → Rail} (h : Agrees dark bare s) (hn : ¬ Needed r s) (hq : r ∉ s.ramp.queue)
    (idle : (f (s.rail r)).state ≠ .on ∧ (f (s.rail r)).state ≠ .queued)
    (good : (f (s.rail r)).state = .hold → (f (s.rail r)).powerGood = true)
    (hd : ∀ q, q ≠ r → dark = some q → dark' = some q) (hb : ∀ q, q ≠ r → bare = some q → bare' = some q) :
    Agrees dark' bare' (s.modRail r f) :=
  h.modRail (fun hr => absurd hr hq) (fun _ n p draw => absurd ⟨n, p, draw⟩ hn)
    (fun _ hs => (hs.elim idle.1 idle.2).elim) (fun hs => good (hs.resolve_left idle.1)) hd hb

/-- A carrier's record is written, and it stays on its rail. -/
theorem Agrees.modCarrier {f : Carrier → Carrier} (h : Agrees dark bare s)
    (rail : (f (s.carrier n)).rail = (s.carrier n).rail)
    (fed : dark ≠ some (s.carrier n).rail → ∀ p, (f (s.carrier n)).draw = some ((s.carrier n).rail, p) →
      Fed p (s.rail (s.carrier n).rail).state)
    (needed : bare' ≠ some (s.carrier n).rail → (f (s.carrier n)).draw.isSome = true ∨
      (s.carrier n).draw = none ∧ bare = bare' ∨
      (s.rail (s.carrier n).rail).state ≠ .on ∧ (s.rail (s.carrier n).rail).state ≠ .queued)
    (hb : ∀ q, q ≠ (s.carrier n).rail → bare = some q → bare' = some q) :
    Agrees dark bare' (s.modCarrier n f) := by
  have cell := h (s.carrier n).rail
  refine h.change (s.carrier n).rail (fun q => sameAt_modCarrier rail)
    ⟨cell.queued, fun hd m p draw => ?_, fun nb hs => ?_, cell.good⟩ (fun _ _ => id) hb
  · rw [carrier_modCarrier] at draw
    split at draw
    · rename_i hm
      subst hm
      exact fed hd p draw
    · exact cell.fed hd m p draw
  · rcases needed nb with draws | ⟨idle, same⟩ | ⟨on, queued⟩
    · obtain ⟨⟨q, p⟩, draw⟩ := Option.isSome_iff_exists.1 draws
      obtain ⟨-, hq, -⟩ := draw_eq_some_iff.1 draw
      rw [← rail, hq]
      exact ⟨n, p, by rw [carrier_modCarrier_same]; exact draw⟩
    · obtain ⟨m, p, draw⟩ := cell.needed (same ▸ nb) hs
      have hm : m ≠ n := by
        rintro rfl
        rw [idle] at draw; cases draw
      exact ⟨m, p, by rw [carrier_modCarrier_ne s f hm]; exact draw⟩
    · exact (hs.elim on queued).elim

end

end Sys2Proof.Machine
end

/-! # The scheduler and the exchange on the rails -/

section

namespace Sys2Proof.Machine

/-! ### Changes of one carrier -/

section

variable {dark bare : Option RailId} {n : Site} {s t : State} {f : Carrier → Carrier}

/-- A carrier goes on to need its rail, in a power state in which it may stand on it. -/
theorem Agrees.redraws (h : Agrees dark bare s) (rail : (f (s.carrier n)).rail = (s.carrier n).rail)
    (draws : (f (s.carrier n)).draw.isSome = true)
    (fed : dark ≠ some (s.carrier n).rail → Fed (f (s.carrier n)).power (s.rail (s.carrier n).rail).state) :
    Agrees dark bare (s.modCarrier n f) := by
  refine h.modCarrier rail (fun hd p draw => ?_) (fun _ => .inl draws) fun _ _ => id
  obtain ⟨-, -, -, rfl⟩ := draw_eq_some_iff.1 draw
  exact fed hd

/-- The same for a rail whose need the carrier is to be. -/
theorem Agrees.comes (h : Agrees dark (some (s.carrier n).rail) s)
    (rail : (f (s.carrier n)).rail = (s.carrier n).rail) (draws : (f (s.carrier n)).draw.isSome = true)
    (fed : dark ≠ some (s.carrier n).rail → Fed (f (s.carrier n)).power (s.rail (s.carrier n).rail).state) :
    Agrees dark none (s.modCarrier n f) := by
  refine h.modCarrier rail (fun hd p draw => ?_) (fun _ => .inl draws) fun q hq he => absurd (Option.some.inj he).symm hq
  obtain ⟨-, -, -, rfl⟩ := draw_eq_some_iff.1 draw
  exact fed hd

/-- The rail that loses a need when a carrier goes out of use. -/
def Carrier.missing (c : Carrier) : Option RailId := if c.power.needs then some c.rail else none

/-- A carrier goes out of use, and its rail may have lost its last need. -/
theorem Agrees.leaves (h : Agrees dark none s)
    (rail : (f (s.carrier n)).rail = (s.carrier n).rail) (out : (f (s.carrier n)).draw = none) :
    Agrees dark (s.carrier n).missing (s.modCarrier n f) := by
  refine h.modCarrier rail (fun _ p draw => ?_) (fun nb => ?_) fun _ _ he => by cases he
  · rw [out] at draw; cases draw
  · rw [Carrier.missing] at nb ⊢
    split
    · rename_i hn
      rw [if_pos hn] at nb
      exact absurd rfl nb
    · rename_i hn
      exact .inr (.inl ⟨draw_of_not_needs (by simpa using hn), rfl⟩)

/-- A rail in ON has carriers that serve, and they may be served in any way. -/
theorem Agrees.fed_of_serves {p : Power} (h : Agrees dark bare s) (hp : (s.carrier n).provisioned = true)
    (serves : (s.carrier n).power.serves = true) (hserves : p.serves = true)
    (hd : dark ≠ some (s.carrier n).rail) : Fed p (s.rail (s.carrier n).rail).state := by
  have draw := draw_of_needs hp ((needs_iff _).2 (.inl serves))
  have on : (s.rail (s.carrier n).rail).state = .on := ((h _).fed hd n _ draw).1 serves
  rw [on]
  exact ⟨fun _ => rfl, fun hw => by rw [hw] at hserves; cases hserves⟩

/-- A carrier that serves goes on to serve. -/
theorem Agrees.serves (h : Agrees dark bare s) (hp : (s.carrier n).provisioned = true)
    (serves : (s.carrier n).power.serves = true) (rail : (f (s.carrier n)).rail = (s.carrier n).rail)
    (provisioned : (f (s.carrier n)).provisioned = true) (power : (f (s.carrier n)).power.serves = true) :
    Agrees dark bare (s.modCarrier n f) := by
  refine h.redraws rail ?_ fun hd => h.fed_of_serves hp serves power hd
  rw [draw_of_needs provisioned ((needs_iff _).2 (.inl power))]
  rfl

end

/-! ### The laws together -/

/-- The laws of the carriers, and the law of power with its exemptions. -/
structure Sound (dark bare : Option RailId) (s : State) : Prop where
  carriers : CarriersOk s
  agrees : Agrees dark bare s

section

variable {dark bare : Option RailId} {s t : State}

theorem Sound.steady (h : Sound dark bare s) (acts : Acts s t) (k : Steady s t) : Sound dark bare t :=
  ⟨acts.keeps_carriers h.carriers, h.agrees.steady k⟩

theorem steady_of_parts (carriers : t.carriers = s.carriers) (rails : t.rails = s.rails) (ramp : t.ramp = s.ramp) :
    Steady s t := by
  refine ⟨fun n => ?_, fun r => ?_, ?_⟩
  · rw [State.carrier, carriers]; rfl
  · rw [State.rail, rails]; rfl
  · rw [ramp]; exact List.Subset.refl _

theorem modPort_steady (u : Tenant) (f : Port → Port) (s : State) : Steady s (s.modPort u f) :=
  steady_of_parts rfl rfl rfl

theorem post_steady (u : Tenant) (x : Notice) (s : State) : Steady s (post u x s) := modPort_steady u _ s

theorem Sound.post (h : Sound dark bare s) (u : Tenant) (x : Notice) : Sound dark bare (post u x s) :=
  h.steady (post_acts u x s) (post_steady u x s)

theorem unqueue_steady (n : Site) (s : State) : Steady s (unqueue n s) := by
  refine (modPort_steady _ _ s).trans (steady_modCarrier ?_)
  exact draw_congr rfl rfl rfl

theorem joinQueue_steady (n : Site) (s : State) : Steady s (joinQueue n s) := by
  refine (modPort_steady _ _ s).trans (steady_modCarrier ?_)
  exact draw_congr rfl rfl rfl

theorem holdoff_steady (x : Site) (v : Option Time) (s : State) :
    Steady s (s.modCarrier x fun c => { c with holdoff := v }) := steady_modCarrier (draw_congr rfl rfl rfl)

theorem Sound.holdoff (h : Sound dark bare s) (x : Site) (v : Option Time) :
    Sound dark bare (s.modCarrier x fun c => { c with holdoff := v }) :=
  h.steady (Act.holdoff x v).run (holdoff_steady x v s)

/-! ### Dispatch and re-evaluation -/

/-- The head of an offer queue is ACTIVE, and is OFFERED on the same rail. -/
theorem Sound.offers {u : Tenant} {n : Site} {rest : List Site} (h : Sound dark bare s)
    (head : (s.port u).offerQueue = n :: rest) :
    Sound dark bare (issueOffer n (s.modPort u fun p => { p with offerQueue := rest })) := by
  obtain ⟨provisioned, -, -, active⟩ := h.carriers.of_queued (u := u) (n := n) (head ▸ List.mem_cons_self)
  refine ⟨carriersOk_issueOffer h.carriers head, ?_⟩
  have dequeued : Agrees dark bare (s.modPort u fun p => { p with offerQueue := rest }) :=
    h.agrees.steady (modPort_steady u _ s)
  rw [issueOffer_eq]
  refine (dequeued.serves (n := n) provisioned ?_ rfl ?_ rfl).steady (post_steady _ _ _)
  · rw [carrier_modPort, active]; rfl
  · exact provisioned

theorem Sound.dispatch (h : Sound dark bare s) (u : Tenant) : Sound dark bare (dispatch u s) :=
  dispatchUpTo_keeps (fun _ _ _ head hv => hv.offers head) _ s h

theorem Sound.reeval (h : Sound dark bare s) (n : Site) : Sound dark bare (reeval n s) := by
  rcases reeval_cases n s with ⟨-, e⟩ | ⟨-, -, e⟩ | ⟨hr, hq, e⟩ <;> rw [e]
  · exact h.steady (Eases.acts (Ease.leaves n).run) (unqueue_steady n s)
  · exact h
  · exact (h.steady (Eases.acts (Ease.joins n hr hq).run) (joinQueue_steady n s)).dispatch _

/-- A loop over chosen members of a list, each turn of which keeps the laws. -/
theorem Sound.forChosen {α : Type} {chosen : State → α → Bool} {f : α → State → State}
    (turn : ∀ x u, chosen u x = true → Sound dark bare u → Sound dark bare (f x u)) (l : List α)
    (h : Sound dark bare s) : Sound dark bare (forList l (fun x u => if chosen u x then f x u else u) s) := by
  refine forList_induction (Sound dark bare) _ (fun x u hu => ?_) l s h
  split
  · rename_i hc; exact turn x u hc hu
  · exact hu

theorem Sound.reevalWhere (h : Sound dark bare s) (chosen : State → Site → Bool) :
    Sound dark bare (reevalWhere chosen s) := h.forChosen (fun n _ _ hu => hu.reeval n) allSites

theorem Sound.reevalDependents (h : Sound dark bare s) (x : Site) : Sound dark bare (reevalDependents x s) :=
  h.reevalWhere fun u n => dependent u x n

/-! ### Ends of drains and exchanges -/

theorem Sound.leftDraining (h : Sound dark bare s) (was : Power) (anchors : List Site) :
    Sound dark bare (leftDraining was anchors s) := by
  rw [Machine.leftDraining]
  split
  · exact h.forChosen (chosen := fun u x => drainingDependents u x = 0 && (u.carrier x).power == .active)
      (fun x _ _ hu => hu.holdoff x _) anchors
  · exact h

theorem Sound.leftExchange (h : Sound dark bare s) (was : Power) (u : Tenant) :
    Sound dark bare (leftExchange was u s) := by
  rw [Machine.leftExchange]
  split
  · exact h.dispatch u
  · exact h

theorem Agrees.enterActive {n : Site} (h : Agrees dark bare s) (hp : (s.carrier n).provisioned = true)
    (fed : dark ≠ some (s.carrier n).rail → (s.rail (s.carrier n).rail).state = .on) :
    Agrees dark bare (enterActive n s) := by
  refine Agrees.steady (h.redraws (n := n) rfl ?_ fun hd => ?_) (unqueue_steady n _)
  · exact Option.isSome_iff_exists.2 ⟨_, draw_of_needs hp rfl⟩
  · rw [fed hd]; exact ⟨fun _ => rfl, nofun⟩

theorem Sound.returns {n : Site} (h : Sound dark bare s) (hp : (s.carrier n).power.inExchange = true) :
    Sound dark bare (enterActive n s) := by
  have provisioned := provisioned_of_power h.carriers (not_offline_of_sleepward (sleepward_of_inExchange hp))
  have serves : (s.carrier n).power.serves = true := (serves_iff _).2 (.inr hp)
  refine ⟨carriersOk_enterActive h.carriers (.inl hp), h.agrees.enterActive provisioned fun hd => ?_⟩
  exact (h.agrees.fed_of_serves (p := .active) provisioned serves rfl hd).1 rfl

theorem Sound.returnToActive {n : Site} (h : Sound dark bare s) (hp : (s.carrier n).power.inExchange = true) :
    Sound dark bare (returnToActive n s) := (h.returns hp).leftDraining _ _

theorem Sound.withdraw (h : Sound dark bare s) (n : Site) (why : Reason) : Sound dark bare (withdraw n why s) := by
  rw [Machine.withdraw]
  split
  · rename_i hp
    exact ((h.returnToActive hp).post _ _).dispatch _
  · exact h

theorem Sound.withdrawWhere (h : Sound dark bare s) (chosen : State → Site → Bool) (why : Reason) :
    Sound dark bare (withdrawWhere chosen why s) := h.forChosen (fun n _ _ hu => hu.withdraw n why) allSites

end

end Sys2Proof.Machine
end

/-! # Wakes and the rails -/

section

namespace Sys2Proof.Machine

/-! ### The ramp queue -/

theorem mem_queue_leaveRamp {q r : RailId} {s : State} :
    q ∈ (leaveRamp r s).ramp.queue ↔ q ≠ r ∧ q ∈ s.ramp.queue := by
  simp only [leaveRamp, Ramp.queue, List.mem_append, List.mem_filter, bne_iff_ne]
  tauto

theorem mem_queue_joinRamp {q r : RailId} {cls : RampClass} {s : State} :
    q ∈ (joinRamp r cls s).ramp.queue ↔ q = r ∨ q ∈ s.ramp.queue := by
  cases cls <;> simp only [joinRamp, Ramp.queue, List.mem_append, List.mem_singleton] <;> tauto

theorem mem_queue_of_mem_ordinary {r : RailId} {s : State} (h : r ∈ s.ramp.ordinary) : r ∈ s.ramp.queue :=
  List.mem_append_right _ h

theorem carrier_joinRamp (r : RailId) (cls : RampClass) (s : State) (n : Site) :
    (joinRamp r cls s).carrier n = s.carrier n := by
  rw [State.carrier, carriers_joinRamp]; rfl

theorem mem_queue_grantTo {q r : RailId} {s : State} : q ∈ (grantTo r s).ramp.queue ↔ q ≠ r ∧ q ∈ s.ramp.queue :=
  mem_queue_leaveRamp

theorem leaveRamp_steady (r : RailId) (s : State) : Steady s (leaveRamp r s) :=
  ⟨fun _ => rfl, fun _ => rfl, fun _ hq => (mem_queue_leaveRamp.1 hq).2⟩

/-- A rail that rises in the queue was there before. -/
theorem raise_steady {r : RailId} {s : State} (h : r ∈ s.ramp.ordinary) :
    Steady s (joinRamp r .urgent (leaveRamp r s)) := by
  refine ⟨fun _ => rfl, fun _ => rfl, fun q hq => ?_⟩
  rcases mem_queue_joinRamp.1 hq with rfl | hq
  · exact mem_queue_of_mem_ordinary h
  · exact (mem_queue_leaveRamp.1 hq).2

theorem raiseRail_steady (r : RailId) (cls : RampClass) (s : State) : Steady s (raiseRail r cls s) := by
  cases cls with
  | ordinary => exact .refl s
  | urgent =>
    rw [raiseRail]
    split
    · rename_i h; exact raise_steady (List.contains_iff_mem.1 h)
    · exact .refl s

section

variable {dark bare : Option RailId} {r : RailId} {n : Site} {s : State}

/-- A rail in QUEUED joins the ramp queue. -/
theorem Agrees.joinRamp (h : Agrees dark bare s) (hs : (s.rail r).state = .queued) (cls : RampClass) :
    Agrees dark bare (joinRamp r cls s) := by
  have cell := h r
  refine h.change r (fun q hq => ⟨fun m p => by rw [carrier_joinRamp], by rw [rail_joinRamp], fun hm => ?_⟩)
    ⟨fun _ => ?_, fun hd m p draw => ?_, fun nb hs' => ?_, fun hs' => ?_⟩ (fun _ _ => id) fun _ _ => id
  · exact (mem_queue_joinRamp.1 hm).resolve_left hq
  · rw [rail_joinRamp]; exact hs
  · rw [carrier_joinRamp] at draw
    rw [rail_joinRamp]
    exact cell.fed hd m p draw
  · obtain ⟨m, p, draw⟩ := cell.needed nb (.inr hs)
    exact ⟨m, p, by rw [carrier_joinRamp]; exact draw⟩
  · rw [rail_joinRamp] at hs' ⊢
    exact cell.good hs'

/-- The slot is granted to a rail in QUEUED: what waits on it goes on waiting. -/
theorem Agrees.grantTo (h : Agrees dark bare s) (hr : r ∈ s.ramp.queue) : Agrees dark bare (grantTo r s) := by
  have cell := h r
  have state := grantTo_state r s
  refine h.change r (fun q hq => ⟨fun _ _ => .rfl, by rw [grantTo_rail_ne s hq], fun hm => (mem_queue_grantTo.1 hm).2⟩)
    ⟨fun hm => absurd rfl (mem_queue_grantTo.1 hm).1, fun hd m p draw => ?_, fun _ hs => ?_, fun hs => ?_⟩
    (fun _ _ => id) fun _ _ => id
  · obtain ⟨serves, -⟩ := cell.fed hd m p draw
    rw [cell.queued hr] at serves
    rw [state]
    exact ⟨fun hp => absurd (serves hp) nofun, fun _ => .inr (.inl rfl)⟩
  · rw [state] at hs
    simp at hs
  · rw [state] at hs
    simp at hs

theorem Agrees.grant (h : Agrees dark bare s) : Agrees dark bare (grant s) := by
  rcases grant_cases s with ⟨r, rest, -, head, e⟩ | ⟨e, -⟩ <;> rw [e]
  · exact h.grantTo (head ▸ List.mem_cons_self)
  · exact h

theorem Sound.releaseSlot (h : Sound dark bare s) : Sound dark bare (releaseSlot s) := by
  have free : Steady s { s with ramp := { s.ramp with slot := none } } :=
    ⟨fun _ => rfl, fun _ => rfl, List.Subset.refl _⟩
  exact ⟨(releaseSlot_acts s).keeps_carriers h.carriers, (h.agrees.steady free).grant⟩

/-! ### Entries to WAKING -/

/-- A carrier passes through WAKING to ACTIVE on a rail in ON. -/
theorem Agrees.risen (h : Agrees dark bare s) (hp : (s.carrier n).provisioned = true)
    (hs : (s.rail (s.carrier n).rail).state = .on) : Agrees dark bare (Machine.risen n s) := by
  refine Agrees.redraws (n := n) (h.steady (modPort_steady _ _ s)) rfl ?_ fun _ => ?_
  · exact Option.isSome_iff_exists.2 ⟨_, draw_of_needs hp rfl⟩
  · rw [rail_modPort, carrier_modPort, hs]
    exact ⟨fun _ => rfl, nofun⟩

/-- A carrier passes through WAKING to ACTIVE on a rail that it returns from HOLD to ON. -/
theorem Agrees.risen_unheld (h : Agrees dark none s) (hp : (s.carrier n).provisioned = true)
    (hs : (s.rail (s.carrier n).rail).state = .hold) :
    Agrees dark none ((Machine.risen n s).modRail (s.carrier n).rail Rail.unheld) := by
  have cell := h (s.carrier n).rail
  have on : Agrees dark (some (s.carrier n).rail) (s.modRail (s.carrier n).rail Rail.unheld) := by
    refine h.modRail (fun hq => absurd (cell.queued hq) (by rw [hs]; exact nofun)) (fun hd m p draw => ?_)
      (fun nb => absurd rfl nb) (fun _ => cell.good (.inr hs)) (fun _ _ => id) fun _ _ he => by cases he
    exact absurd ⟨m, p, draw⟩ (cell.not_needed hd (.inr (.inl hs)))
  let v := (s.modRail (s.carrier n).rail Rail.unheld).modPort (s.carrier n).owner fun p =>
    { p with offerQueue := p.offerQueue.filter (· != n) }
  refine Agrees.comes (n := n) (s := v) (f := fun c => { c.returned s with cause := none })
    (on.steady (modPort_steady _ _ _)) rfl ?_ fun _ => ?_
  · exact Option.isSome_iff_exists.2 ⟨_, draw_of_needs hp rfl⟩
  · rw [rail_modPort, carrier_modPort, carrier_modRail, rail_modRail_same]
    exact ⟨fun _ => rfl, nofun⟩

theorem fed_waking_iff {x : RailState} : Fed .waking x ↔ x = .queued ∨ x = .ramping ∨ x = .retryWait :=
  ⟨fun h => h.2 rfl, fun h => ⟨nofun, fun _ => h⟩⟩

/-- A carrier enters WAKING on a rail that is on its way to ON. -/
theorem Agrees.rising (h : Agrees dark bare s) (hp : (s.carrier n).provisioned = true)
    (hs : Fed .waking (s.rail (s.carrier n).rail).state) : Agrees dark bare (s.modCarrier n Carrier.rising) :=
  h.redraws rfl (Option.isSome_iff_exists.2 ⟨_, draw_of_needs hp rfl⟩) fun _ => hs

/-- A carrier enters WAKING on a rail in OFF, which joins the ramp queue (R113). -/
theorem Agrees.rising_off (h : Agrees dark none s) (hp : (s.carrier n).provisioned = true)
    (hs : (s.rail (s.carrier n).rail).state = .off) (cls : RampClass) :
    Agrees dark none (queueRail (s.carrier n).rail cls (s.modCarrier n Carrier.rising)) := by
  let r := (s.carrier n).rail
  let v := s.modRail r fun x => { x with state := .queued }
  have cell := h r
  have queued : (v.rail r).state = .queued := by rw [rail_modRail_same]
  have waits : Agrees dark (some r) v := by
    refine h.modRail (fun _ => rfl) (fun hd m p draw => ?_) (fun nb => absurd rfl nb) (fun hon => ?_) (fun _ _ => id)
      fun _ _ he => by cases he
    · exact absurd ⟨m, p, draw⟩ (cell.not_needed hd (.inl hs))
    · simp at hon
  have same : (Machine.joinRamp r cls v).carrier n = s.carrier n := by rw [carrier_joinRamp, carrier_modRail]
  have joined : Agrees dark (some ((Machine.joinRamp r cls v).carrier n).rail) (Machine.joinRamp r cls v) := by
    rw [same]; exact waits.joinRamp queued cls
  have commute : Machine.joinRamp r cls ((s.modCarrier n Carrier.rising).modRail r fun x => { x with state := .queued }) =
      (Machine.joinRamp r cls v).modCarrier n Carrier.rising := by cases cls <;> rfl
  rw [queueRail, commute]
  refine (joined.comes (n := n) rfl ?_ fun _ => ?_).grant
  · rw [same]
    exact Option.isSome_iff_exists.2 ⟨_, draw_of_needs hp rfl⟩
  · rw [same, rail_joinRamp, queued]
    exact fed_waking_iff.2 (.inl rfl)

/-- A carrier enters WAKING, and its rail makes of it what R89 says. -/
theorem Sound.enterWaking (hc : CarriersOk (s.modCarrier n Carrier.rising)) (h : Agrees dark none s)
    (hp : (s.carrier n).provisioned = true) (cls : RampClass) : Sound dark none (enterWaking n cls s) := by
  have carriers : CarriersOk (Machine.enterWaking n cls s) := (enterWaking_moves n cls s).acts.keeps_carriers hc
  have waking : ((s.modCarrier n Carrier.rising).carrier n).power = .waking := by rw [carrier_modCarrier_same]; rfl
  cases hs : (s.rail (s.carrier n).rail).state with
  | on =>
    have told : Sound dark none (toldPowered n s) := by
      refine ⟨?_, (h.risen hp hs).steady (post_steady _ _ _)⟩
      rw [← told_rising]
      exact carriersOk_post _ _ (carriersOk_enterActive hc (.inr waking))
    cases hr : (s.carrier n).role with
    | capacity => rw [(enterWaking_of_powered hs).1 hr]; exact told
    | coverage => rw [(enterWaking_of_powered hs).2 hr]; exact told.reevalDependents n
  | hold =>
    have told : Sound dark none (toldUnheld n s) := by
      refine ⟨?_, (h.risen_unheld hp hs).steady (post_steady _ _ _)⟩
      rw [← told_rising_unheld]
      exact carriersOk_post _ _ (carriersOk_enterActive
        (s := (s.modCarrier n Carrier.rising).modRail (s.carrier n).rail Rail.unheld) hc (.inr waking))
    cases hr : (s.carrier n).role with
    | capacity => rw [(enterWaking_of_held hs).1 hr]; exact told
    | coverage => rw [(enterWaking_of_held hs).2 hr]; exact told.reevalDependents n
  | off =>
    refine ⟨carriers, ?_⟩
    rw [enterWaking_of_off hs]
    exact h.rising_off hp hs cls
  | queued =>
    refine ⟨carriers, ?_⟩
    rw [enterWaking_of_queued hs]
    exact (h.rising hp (fed_waking_iff.2 (.inl hs))).steady (raiseRail_steady _ _ _)
  | ramping =>
    refine ⟨carriers, ?_⟩
    rw [enterWaking_of_waiting (.inl hs)]
    exact h.rising hp (fed_waking_iff.2 (.inr (.inl hs)))
  | retryWait =>
    refine ⟨carriers, ?_⟩
    rw [enterWaking_of_waiting (.inr hs)]
    exact h.rising hp (fed_waking_iff.2 (.inr (.inr hs)))
  | fault =>
    refine ⟨carriers, ?_⟩
    rw [enterWaking_of_fault hs]
    refine Agrees.steady ?_ (post_steady _ _ _)
    refine h.modCarrier rfl (fun _ p draw => ?_) (fun _ => .inr (.inr ?_)) fun _ _ => id
    · rw [draw_of_not_needs rfl] at draw; cases draw
    · rw [hs]; exact ⟨nofun, nofun⟩

/-! ### Wakes of sleepers -/

theorem Sound.wakeCarrier (h : Sound dark none s) (n : Site) (cls : RampClass) :
    Sound dark none (wakeCarrier n cls s) := by
  by_cases hp : (s.carrier n).power = .asleep
  · rw [wakeCarrier_of_asleep hp]
    have left : Steady s { s with stack := s.stack.filter (· != n) } := steady_of_parts rfl rfl rfl
    have provisioned := provisioned_of_power h.carriers (n := n) (by rw [hp]; exact nofun)
    exact Sound.enterWaking ((Move.wakes n hp).keeps_carriers h.carriers) (h.agrees.steady left) provisioned cls
  · rw [wakeCarrier_of_not hp]
    exact h

theorem Sound.bulkWake (h : Sound dark none s) (chosen : State → Site → Bool) (cls : RampClass) :
    Sound dark none (bulkWake chosen cls s) := h.forChosen (fun n _ _ hu => hu.wakeCarrier n cls) s.stack

theorem Sound.restoration (h : Sound dark none s) (x : Site) : Sound dark none (restoration x s) := by
  rw [restoration_eq_where]
  exact (h.withdrawWhere _ _).bulkWake _ _

theorem Sound.anchorLeaves (h : Sound dark none s) (x : Site) (was : Carrier) :
    Sound dark none (anchorLeaves x was s) := by
  rw [Machine.anchorLeaves]
  split
  · exact (h.reevalDependents x).restoration x
  · exact h

end

end Sys2Proof.Machine
end

/-! # Rails without a need, and rails in FAULT -/

section

namespace Sys2Proof.Machine

/-! ### Ends of the exemptions -/

section

variable {dark bare : Option RailId} {r : RailId} {n : Site} {s t : State}

/-- The rail whose need was in question has one, or needs none. -/
theorem Agrees.clothed (h : Agrees dark bare s)
    (hb : ∀ q, bare = some q → (s.rail q).state = .on ∨ (s.rail q).state = .queued → Needed q s) :
    Agrees dark none s := by
  intro q
  obtain ⟨queued, fed, needed, good⟩ := h q
  refine ⟨queued, fed, fun _ hs => ?_, good⟩
  by_cases hq : bare = some q
  · exact hb q hq hs
  · exact needed hq hs

/-- What stands on the rail that was dark is fed. -/
theorem Agrees.lit (h : Agrees (some r) bare s)
    (fed : ∀ n p, (s.carrier n).draw = some (r, p) → Fed p (s.rail r).state) : Agrees none bare s := by
  intro q
  obtain ⟨queued, feds, needed, good⟩ := h q
  refine ⟨queued, fun _ n p draw => ?_, needed, good⟩
  by_cases hq : r = q
  · subst hq; exact fed n p draw
  · exact feds (fun e => hq (Option.some.inj e)) n p draw

theorem Sound.clothed (h : Sound dark bare s)
    (hb : ∀ q, bare = some q → (s.rail q).state = .on ∨ (s.rail q).state = .queued → Needed q s) :
    Sound dark none s := ⟨h.carriers, h.agrees.clothed hb⟩

/-! ### Rails that lose their need -/

theorem graceTest_eq (r : RailId) (s : State) : ∃ f : Rail → Rail, graceTest r s = s.modRail r f ∧
    ∀ x, (f x).powerGood = x.powerGood ∧ ((f x).state = x.state ∨ (f x).state = .off) := by
  rw [graceTest]
  split
  · exact ⟨_, modRail_modRail s r _ _, fun _ => ⟨rfl, .inr rfl⟩⟩
  · split
    · exact ⟨_, modRail_modRail s r _ _, fun _ => ⟨rfl, .inr rfl⟩⟩
    · exact ⟨_, modRail_modRail s r _ _, fun _ => ⟨rfl, .inl rfl⟩⟩

theorem enterHold_eq (r : RailId) (s : State) : ∃ f : Rail → Rail, enterHold r s = s.modRail r f ∧
    ∀ x, (f x).powerGood = x.powerGood ∧ ((f x).state = .hold ∨ (f x).state = .off) := by
  rw [enterHold]
  split
  · obtain ⟨f, e, hf⟩ :=
      graceTest_eq r (s.modRail r fun x => { x with state := .hold, graceTimer := some s.now, held := false })
    rw [modRail_modRail] at e
    exact ⟨_, e, fun x => hf { x with state := .hold, graceTimer := some s.now, held := false }⟩
  · exact ⟨_, rfl, fun _ => ⟨rfl, .inl rfl⟩⟩

/-- A rail without a need, its power good, enters HOLD, and from there perhaps OFF. -/
theorem Agrees.enterHold (h : Agrees dark bare s) (hb : bare = none ∨ bare = some r) (hn : ¬ Needed r s)
    (hq : (s.rail r).state ≠ .queued) (good : (s.rail r).powerGood = true) : Agrees dark none (enterHold r s) := by
  obtain ⟨f, e, hf⟩ := enterHold_eq r s
  obtain ⟨same, idle⟩ := hf (s.rail r)
  rw [e]
  refine h.modRail_unneeded hn ((h r).not_mem_queue hq) ?_ (fun _ => same.trans good) (fun _ _ => id) fun q hq he => ?_
  · rcases idle with hs | hs <;> rw [hs] <;> exact ⟨nofun, nofun⟩
  · rcases hb with rfl | rfl
    · cases he
    · exact absurd (Option.some.inj he).symm hq

theorem Agrees.needFalls (h : Agrees dark (some r) s) : Agrees dark none (needFalls r s) := by
  have cell := h r
  have stays (hs : (s.rail r).state = .on ∨ (s.rail r).state = .queued → Needed r s) : Agrees dark none s :=
    h.clothed fun q hq => by cases hq; exact hs
  rw [Machine.needFalls]
  split
  · rename_i hz
    have hn : ¬ Needed r s := needCount_eq_zero_iff.1 hz
    split <;> rename_i hs
    · exact h.enterHold (.inr rfl) hn (by rw [hs]; exact nofun) (cell.good (.inl hs))
    · change Agrees dark none ((leaveRamp r s).modRail r fun x => { x with state := .off })
      refine (h.steady (leaveRamp_steady r s)).modRail_unneeded hn (fun hm => (mem_queue_leaveRamp.1 hm).1 rfl) ?_ nofun
        (fun _ _ => id) fun q hq he => absurd (Option.some.inj he).symm hq
      exact ⟨nofun, nofun⟩
    all_goals exact stays fun hon => by simp [hs] at hon
  · rename_i hz
    exact stays fun _ => needCount_pos_iff.1 (Nat.pos_of_ne_zero hz)

/-- A rail in HOLD changes to HOLD or OFF. -/
theorem Agrees.held {f : Rail → Rail} (h : Agrees none bare s) (hs : (s.rail r).state = .hold)
    (hf : (f (s.rail r)).powerGood = (s.rail r).powerGood ∧
      ((f (s.rail r)).state = .hold ∨ (f (s.rail r)).state = .off)) : Agrees none bare (s.modRail r f) := by
  have cell := h r
  obtain ⟨same, idle⟩ := hf
  refine h.modRail_unneeded (cell.not_needed nofun (.inr (.inl hs))) (cell.not_mem_queue (by rw [hs]; exact nofun)) ?_
    (fun _ => same.trans (cell.good (.inr hs))) (fun _ _ => id) fun _ _ => id
  rcases idle with hs | hs <;> rw [hs] <;> exact ⟨nofun, nofun⟩

theorem Agrees.sleeperLeaves (h : Agrees none bare s) : Agrees none bare (sleeperLeaves r s) := by
  rw [Machine.sleeperLeaves]
  split
  · rename_i hc
    simp only [Bool.and_eq_true, beq_iff_eq] at hc
    exact h.held hc.1.1 ⟨rfl, .inr rfl⟩
  · exact h

theorem Sound.graceExpires (h : Sound none bare s) (r : RailId) : Sound none bare (graceExpires r s) := by
  refine ⟨(graceExpires_moves r s).acts.keeps_carriers h.carriers, ?_⟩
  rw [Machine.graceExpires]
  split
  · rename_i hs
    obtain ⟨f, e, hf⟩ := graceTest_eq r s
    obtain ⟨same, idle⟩ := hf (s.rail r)
    rw [beq_iff_eq] at hs
    rw [e]
    exact h.agrees.held hs ⟨same, idle.imp_left fun k => k.trans hs⟩
  · exact h.agrees.steady (steady_modRail rfl)

theorem Sound.needFalls (h : Sound dark (some r) s) : Sound dark none (needFalls r s) :=
  ⟨(needFalls_moves r s).acts.keeps_carriers h.carriers, h.agrees.needFalls⟩

/-- The rail of a carrier that has gone out of use looks at its need, or at its sleepers. -/
theorem Sound.railLoses {c : Carrier} (h : Sound none c.missing s) : Sound none none (railLoses c.power c.rail s) := by
  refine ⟨(railLoses_moves _ _ s).acts.keeps_carriers h.carriers, ?_⟩
  have agrees := h.agrees
  rw [Carrier.missing] at agrees
  rw [Machine.railLoses]
  split at agrees
  · rename_i needs
    rw [if_pos needs]
    exact agrees.needFalls
  · rename_i needs
    rw [if_neg needs]
    split
    · exact agrees.sleeperLeaves
    · exact agrees

/-! ### Carriers that go out of use -/

/-- A carrier goes out of use, and leaves its queue and the stack. -/
theorem Agrees.exits {f : Carrier → Carrier} (h : Agrees dark none s) (rail : ∀ c, (f c).rail = c.rail)
    (out : ∀ c, (f c).power.needs = false) (l : List Site) :
    Agrees dark (s.carrier n).missing { (unqueue n s).modCarrier n f with stack := l } := by
  have dequeued : Agrees dark none (unqueue n s) := h.steady (unqueue_steady n s)
  have left := dequeued.leaves (n := n) (f := f) (rail _) (draw_of_not_needs (out _))
  rw [carrier_unqueue_same] at left
  exact Agrees.steady left (steady_of_parts rfl rfl rfl)

theorem Sound.downed (h : Sound dark none s) (cause : FaultCause) (hp : (s.carrier n).power.inService = true) :
    Sound dark (s.carrier n).missing (downed n cause s) :=
  ⟨(Move.faults n cause hp).keeps_carriers h.carriers,
    h.agrees.exits (f := Carrier.downed cause) (fun _ => rfl) (fun _ => rfl) _⟩

theorem Sound.tenantFault (h : Sound none none s) (hp : (s.carrier n).power.inService = true) :
    Sound none none (tenantFault n s) := by
  have ends := ((h.downed .tenant hp).leftDraining (s.carrier n).power (s.carrier n).anchors).leftExchange
    (s.carrier n).power (s.carrier n).owner
  exact ends.railLoses.anchorLeaves n _

theorem Sound.disableCarrier (h : Sound none none s) (hp : (s.carrier n).power ≠ .offline) :
    Sound none none (disableCarrier n s) := by
  have out : Sound none (s.carrier n).missing (withdrawn n s) :=
    ⟨(Act.disables n hp).keeps_carriers h.carriers,
      h.agrees.exits (f := Carrier.disabled) (fun _ => rfl) (fun _ => rfl) _⟩
  have off : Sound none (s.carrier n).missing (takeOffline n s) := out.post _ _
  exact ((off.railLoses.leftExchange _ _).leftDraining _ _).anchorLeaves n _

theorem Sound.endOfDrain (h : Sound dark bare s) (anchors : List Site) : Sound dark bare (endOfDrain anchors s) :=
  h.leftDraining .draining anchors

theorem Sound.fallAsleep (h : Sound none none s) (hp : (s.carrier n).power.inExchange = true) :
    Sound none none (fallAsleep n s) := by
  have missing : (s.carrier n).missing = some (s.carrier n).rail := if_pos (Power.needs_of_inExchange hp)
  have slept : Agrees none (s.carrier n).missing (s.modCarrier n Carrier.slept) :=
    h.agrees.leaves rfl (draw_of_not_needs rfl)
  have top : Sound none (some (s.carrier n).rail) (asleepOnTop n s) := by
    rw [← missing]
    exact ⟨carriersOk_sleeps h.carriers hp, Agrees.steady slept (steady_of_parts rfl rfl rfl)⟩
  rw [fallAsleep_eq_asleepOnTop]
  exact ((top.endOfDrain _).dispatch _).needFalls

end

/-! ### Rails in FAULT -/

section

variable {r : RailId} {n : Site} {s t : State}

/-- Rail r is in FAULT and waits for no slot. -/
structure Down (r : RailId) (s : State) : Prop where
  state : (s.rail r).state = .fault
  unqueued : r ∉ s.ramp.queue

theorem Down.of_parts (h : Down r s) (rails : t.rails = s.rails) (ramp : t.ramp = s.ramp) : Down r t := by
  refine ⟨?_, by rw [ramp]; exact h.unqueued⟩
  rw [State.rail, rails]; exact h.state

/-- Another rail is written. -/
theorem Down.modRail {q : RailId} {f : Rail → Rail} (h : Down r s) (hf : (f (s.rail q)).state = (s.rail q).state ∨
    (s.rail q).state ≠ .fault) : Down r (s.modRail q f) := by
  refine ⟨?_, h.unqueued⟩
  rw [rail_modRail]
  split
  · rename_i hq
    subst hq
    exact (hf.resolve_right fun hs => hs h.state).trans h.state
  · exact h.state

theorem Down.leaveRamp (h : Down r s) (q : RailId) : Down r (leaveRamp q s) :=
  ⟨h.state, fun hm => h.unqueued (mem_queue_leaveRamp.1 hm).2⟩

theorem Down.joinRamp {q : RailId} (h : Down r s) (hq : r ≠ q) (cls : RampClass) : Down r (joinRamp q cls s) :=
  ⟨by rw [rail_joinRamp]; exact h.state, fun hm => (mem_queue_joinRamp.1 hm).elim hq h.unqueued⟩

theorem Down.grant (h : Down r s) : Down r (grant s) := by
  rcases grant_cases s with ⟨q, rest, -, head, e⟩ | ⟨e, -⟩ <;> rw [e]
  · have hq : r ≠ q := by
      rintro rfl
      exact h.unqueued (head ▸ List.mem_cons_self)
    exact ⟨by rw [grantTo_rail_ne s hq]; exact h.state, fun hm => h.unqueued (mem_queue_grantTo.1 hm).2⟩
  · exact h

/-- No move of a cascade clears a fault of a rail. -/
theorem Move.keeps_down (m : Move s t) (h : Down r s) : Down r t := by
  have other {q : RailId} (hs : (s.rail q).state ≠ .fault) : r ≠ q := by
    rintro rfl
    exact hs h.state
  cases m with
  | ease e => exact h.of_parts e.rails.1 e.rails.2.1
  | queues q cls hs => exact ((h.modRail (.inr (by simp [hs]))).joinRamp (other (by simp [hs])) cls).grant
  | raises q hq => exact (h.leaveRamp q).joinRamp (by rintro rfl; exact h.unqueued (mem_queue_of_mem_ordinary hq)) .urgent
  | returns q hs => exact h.modRail (.inr (by simp [hs]))
  | holds q hs _ => exact h.modRail (.inr (by simp [hs]))
  | graceStops q => exact h.modRail (.inl rfl)
  | darkens q hs => exact h.modRail (.inr (by simp [hs]))
  | isHeld q _ => exact h.modRail (.inl rfl)
  | gives q hs _ => exact (h.modRail (.inr (by simp [hs]))).leaveRamp q
  | empties u => exact h.of_parts (emptyQueue_rails u s).1 (emptyQueue_rails u s).2.1
  | _ => exact h.of_parts rfl rfl

/-! ### Carriers out of service -/

/-- Carrier n is not in service. -/
def Idled (n : Site) (s : State) : Prop := (s.carrier n).power.inService = false

theorem Idled.of_power (h : Idled n s) (same : (t.carrier n).power = (s.carrier n).power) : Idled n t := by
  rw [Idled, same]; exact h

/-- A carrier's power state is written: it was in service before, or it is not afterwards. -/
theorem Idled.modCarrier {m : Site} {f : Carrier → Carrier} (h : Idled n s)
    (hf : (s.carrier m).power.inService = true ∨ (f (s.carrier m)).power.inService = false ∨
      (f (s.carrier m)).power = (s.carrier m).power) : Idled n (s.modCarrier m f) := by
  rw [Idled, carrier_modCarrier]
  split
  · rename_i hm
    subst hm
    rcases hf with hs | hs | hs
    · rw [h] at hs; cases hs
    · exact hs
    · rw [hs]; exact h
  · exact h

theorem Idled.unqueue (h : Idled n s) (m : Site) : Idled n (unqueue m s) :=
  h.of_power (by rw [carrier_unqueue]; split <;> rfl)

theorem Ease.keeps_idled (e : Ease s t) (hc : CarriersOk s) (h : Idled n s) : Idled n t := by
  cases e with
  | notice u x _ => exact h
  | leaves m => exact h.unqueue m
  | joins m _ _ => exact h.of_power (by rw [carrier_joinQueue]; split <;> rfl)
  | offers u m rest head _ =>
    obtain ⟨-, -, -, active⟩ := hc.of_queued (u := u) (n := m) (head ▸ List.mem_cons_self)
    have hm : n ≠ m := by
      rintro rfl
      rw [Idled, active] at h; cases h
    exact h.of_power (by rw [carrier_issueOffer, if_neg hm]; rfl)
  | activates m hp =>
    refine (h.modCarrier (.inl ?_)).unqueue m
    rcases hp with hp | hp
    · rcases (inExchange_iff _).1 hp with hp | hp <;> rw [hp] <;> rfl
    · rw [hp]; rfl
  | settles x _ _ => exact h.modCarrier (.inr (.inr rfl))

/-- No move of a cascade puts a carrier in service. -/
theorem Move.keeps_idled (m : Move s t) (hc : CarriersOk s) (h : Idled n s) : Idled n t := by
  cases m with
  | ease e => exact e.keeps_idled hc h
  | wakes m hp =>
    exact Idled.modCarrier (s := { s with stack := s.stack.filter (· != m) }) h (.inl (by
      change (s.carrier m).power.inService = true
      rw [hp]; rfl))
  | queues q cls _ => exact h.of_power (by rw [State.carrier, (queueRail_apart q cls s).carriers]; rfl)
  | raises q _ => exact h.of_power rfl
  | meetsFault m _ _ => exact h.modCarrier (.inr (.inl rfl))
  | faults m cause _ => exact (h.unqueue m).modCarrier (f := Carrier.downed cause) (.inr (.inl rfl))
  | empties u =>
    obtain ⟨-, -, -, records⟩ := emptyQueue_records u s
    obtain ⟨x, same⟩ := records n
    exact h.of_power (by rw [same])
  | stales m _ => exact h.modCarrier (.inr (.inr rfl))
  | staleStops m => exact h.modCarrier (.inr (.inr rfl))
  | dwells m st _ => exact h.modCarrier (.inr (.inr rfl))
  | awakes m e x _ => exact h.modCarrier (.inr (.inr rfl))
  | answerStops m _ => exact h.modCarrier (.inr (.inr rfl))
  | drainStops m _ => exact h.modCarrier (.inr (.inr rfl))
  | holdoffEnds m => exact h.modCarrier (.inr (.inr rfl))
  | _ => exact h

end

end Sys2Proof.Machine
end

/-! # Sweeps and ramps -/

section

namespace Sys2Proof.Machine

section

variable {dark bare : Option RailId} {r : RailId} {n : Site} {s t : State}

theorem provisionedOf_cascade (h : Cascade s t) (n : Site) : (t.carrier n).provisioned = (s.carrier n).provisioned :=
  congrArg (fun l => l.1) (h.carriers n)

/-- Carrier n stands on rail r. -/
def On (r : RailId) (n : Site) (s : State) : Prop := (s.carrier n).provisioned = true ∧ (s.carrier n).rail = r

theorem on_of_cascade (h : Cascade s t) : On r n t ↔ On r n s := by
  rw [On, On, provisionedOf_cascade h, railOf_cascade h]

theorem on_of_draw {p : Power} (h : (s.carrier n).draw = some (r, p)) : On r n s ∧ (s.carrier n).power = p := by
  obtain ⟨provisioned, rail, -, power⟩ := draw_eq_some_iff.1 h
  exact ⟨⟨provisioned, rail⟩, power⟩

/-! ### The sweep of a rail in FAULT -/

/-- The laws hold but on rail r, which is in FAULT. -/
structure Sweeping (r : RailId) (s : State) : Prop where
  sound : Sound (some r) none s
  state : (s.rail r).state = .fault

theorem Sweeping.down (h : Sweeping r s) : Down r s :=
  ⟨h.state, (h.sound.agrees r).not_mem_queue (by rw [h.state]; exact nofun)⟩

/-- A carrier on the rail is swept. -/
theorem Sweeping.sound_sweepCarrier (h : Sweeping r s) (on : On r n s) : Sound (some r) none (sweepCarrier n s) := by
  rw [sweepCarrier]
  split
  · rename_i hp
    obtain ⟨-, rail⟩ := on
    have out : Sound (some r) none (downed n .rail s) := by
      refine (h.sound.downed .rail hp).clothed fun q hq hs => ?_
      rw [Carrier.missing, rail] at hq
      split at hq
      · cases hq
        have fault : ((downed n .rail s).rail r).state = .fault := h.state
        rw [fault] at hs
        simp at hs
      · cases hq
    exact ((((out.leftDraining _ _).leftExchange _ _).post _ _).anchorLeaves n _)
  · exact h.sound

theorem Sweeping.sweepCarrier (h : Sweeping r s) (on : On r n s) : Sweeping r (sweepCarrier n s) :=
  ⟨h.sound_sweepCarrier on, ((sweepCarrier_moves n s).keeps (fun _ _ m hd => m.keeps_down hd) h.down).state⟩

/-- Moves keep the carriers' laws, and with them carrier n out of service. -/
theorem Moves.keeps_idled (m : Moves s t) (hc : CarriersOk s) (h : Idled n s) : Idled n t :=
  (m.keeps (P := fun u => CarriersOk u ∧ Idled n u) (fun _ _ m ⟨hc, h⟩ => ⟨m.keeps_carriers hc, m.keeps_idled hc h⟩)
    ⟨hc, h⟩).2

theorem sweepCarrier_after (n : Site) (s : State) (hp : (s.carrier n).power.inService = true) :
    Moves (downed n .rail s) (sweepCarrier n s) := by
  rw [sweepCarrier, if_pos hp]
  have ends : Eases (downed n .rail s) (takeToFaulted n .rail s) :=
    (leftDraining_eases _ _ _).trans (leftExchange_eases _ _ _)
  have told : Eases (takeToFaulted n .rail s) (post (s.carrier n).owner
      (.faulted n (noticeNumber (takeToFaulted n .rail s) n)) (takeToFaulted n .rail s)) := (Ease.notice _ _ rfl).run
  exact (Eases.moves (ends.trans told)).trans (anchorLeaves_moves n _ _)

theorem sweepCarrier_idled (n : Site) (hc : CarriersOk s) : Idled n (sweepCarrier n s) := by
  cases hp : (s.carrier n).power.inService with
  | true =>
    refine (sweepCarrier_after n s hp).keeps_idled ((Move.faults n .rail hp).keeps_carriers hc) ?_
    rw [Idled, carrier_downed_same]
    rfl
  | false =>
    rw [sweepCarrier, if_neg (by simp [hp])]
    exact hp

/-- One turn of the sweep. -/
def sweepTurn (r : RailId) (n : Site) (s : State) : State :=
  if (s.carrier n).provisioned && (s.carrier n).rail == r then sweepCarrier n s else s

theorem sweepRail_eq (r : RailId) (s : State) : sweepRail r s = forList allSites (sweepTurn r) s := rfl

theorem sweepTurn_of_on (h : On r n s) : sweepTurn r n s = sweepCarrier n s := by
  obtain ⟨provisioned, rail⟩ := h
  rw [sweepTurn, provisioned, rail, beq_self_eq_true, Bool.and_self, if_pos rfl]

theorem sweepTurn_of_not_on (h : ¬ On r n s) : sweepTurn r n s = s := by
  rw [sweepTurn, if_neg]
  rwa [Bool.and_eq_true, beq_iff_eq]

theorem sweepTurn_moves (r : RailId) (n : Site) (s : State) : Moves s (sweepTurn r n s) := by
  by_cases on : On r n s
  · rw [sweepTurn_of_on on]; exact sweepCarrier_moves n s
  · rw [sweepTurn_of_not_on on]

theorem Sweeping.turn (h : Sweeping r s) (n : Site) : Sweeping r (sweepTurn r n s) := by
  by_cases on : On r n s
  · rw [sweepTurn_of_on on]; exact h.sweepCarrier on
  · rw [sweepTurn_of_not_on on]; exact h

/-- After the sweep no carrier on the rail is in service. -/
theorem Sweeping.idled (h : Sweeping r s) (on : On r n (sweepRail r s)) : Idled n (sweepRail r s) := by
  refine forList_reaches (P := Sweeping r) (Q := fun u => On r n u → Idled n u) (x := n) (fun m u hu => hu.turn m)
    (fun u hu on => ?_) (fun m u hu idled on => ?_) allSites s h (.inl (mem_allSites n)) on
  · rw [on_of_cascade (sweepTurn_moves r n u).cascade] at on
    rw [sweepTurn_of_on on]
    exact sweepCarrier_idled n hu.sound.carriers
  · rw [on_of_cascade (sweepTurn_moves r m u).cascade] at on
    exact (sweepTurn_moves r m u).keeps_idled hu.sound.carriers (idled on)

theorem Power.inService_of_needs {p : Power} (h : p.needs = true) : p.inService = true := by
  cases p <;> simp [Power.needs, Power.inService] at h ⊢

theorem Sweeping.sweepRail (h : Sweeping r s) : Sound none none (sweepRail r s) := by
  have swept : Sweeping r (Machine.sweepRail r s) := by
    rw [sweepRail_eq]
    exact forList_induction (Sweeping r) (sweepTurn r) (fun n _ hu => hu.turn n) allSites s h
  refine ⟨swept.sound.carriers, swept.sound.agrees.lit fun n p draw => ?_⟩
  obtain ⟨on, rfl⟩ := on_of_draw draw
  obtain ⟨-, -, needs, -⟩ := draw_eq_some_iff.1 draw
  have idled : (((Machine.sweepRail r s).carrier n).power).inService = false := h.idled on
  rw [Power.inService_of_needs needs] at idled
  cases idled

/-- A rail that waits for no slot enters FAULT. -/
theorem Sound.faults {f : Rail → Rail} (h : Sound none none s) (hs : (s.rail r).state ≠ .queued)
    (acts : Acts s (s.modRail r f)) (fault : (f (s.rail r)).state = .fault) :
    Sound none none (sweepRail r (addAlert (railFaultCode r) (s.modRail r f))) := by
  have unqueued : r ∉ s.ramp.queue := (h.agrees r).not_mem_queue hs
  have broken : Agrees (some r) none (s.modRail r f) := by
    refine h.agrees.modRail (fun hr => absurd hr unqueued) (fun hd => absurd rfl hd) (fun _ hon => ?_) (fun hon => ?_)
      (fun _ _ he => by cases he) fun _ _ => id
    · rw [fault] at hon; simp at hon
    · rw [fault] at hon; simp at hon
  have alerted : Sound (some r) none (addAlert (railFaultCode r) (s.modRail r f)) :=
    Sound.steady ⟨acts.keeps_carriers h.carriers, broken⟩ (addAlert_acts _ _) (steady_of_parts rfl rfl rfl)
  refine Sweeping.sweepRail ⟨alerted, ?_⟩
  change ((s.modRail r f).rail r).state = .fault
  rw [rail_modRail_same]
  exact fault

theorem Sound.enterFault (h : Sound none none s) (hs : (s.rail r).state ≠ .queued) :
    Sound none none (enterFault r s) := h.faults hs (rail_acts r _ s fun _ => by rfl) rfl

/-- The line of a rail that is neither in ON nor in HOLD may be told at any level. -/
theorem Agrees.told (h : Agrees dark bare s) (hs : (s.rail r).state ≠ .on ∧ (s.rail r).state ≠ .hold) (level : Bool) :
    Agrees dark bare (tellPowerGood r level s) :=
  h.modRail (fun hr => (h r).queued hr) (fun hd => (h r).fed hd) (fun hb => (h r).needed hb)
    (fun hon => (hon.elim hs.1 hs.2).elim) (fun _ _ => id) fun _ _ => id

theorem Sound.powerFalls (h : Sound none none s) (r : RailId) : Sound none none (powerFalls r s) := by
  have acts : Acts s (tellPowerGood r false s) := tellPowerGood_acts r false s
  rw [Machine.powerFalls]
  split
  · rename_i hs
    rw [Bool.or_eq_true, beq_iff_eq, beq_iff_eq] at hs
    have fault := acts.trans (rail_acts r (fun x =>
      { x with state := .fault, graceTimer := none, settleTimer := none, held := false }) _ fun _ => by rfl)
    rw [Machine.enterFault]
    rw [tellPowerGood, modRail_modRail] at fault ⊢
    refine h.faults ?_ fault rfl
    rcases hs with hs | hs <;> rw [hs] <;> exact nofun
  · rename_i hs
    rw [Bool.or_eq_true, beq_iff_eq, beq_iff_eq, not_or] at hs
    exact ⟨acts.keeps_carriers h.carriers, h.agrees.told hs false⟩

/-! ### The carriers of a rail that comes to ON -/

/-- The laws hold but on rail r, which is in ON. -/
structure Powering (r : RailId) (s : State) : Prop where
  sound : Sound (some r) none s
  state : (s.rail r).state = .on

/-- Carrier n is in another power state than p. -/
def Avoids (p : Power) (n : Site) (s : State) : Prop := (s.carrier n).power ≠ p

theorem Avoids.modCarrier {p : Power} {m : Site} {f : Carrier → Carrier} (h : Avoids p n s)
    (hf : (f (s.carrier m)).power ≠ p ∨ (f (s.carrier m)).power = (s.carrier m).power) :
    Avoids p n (s.modCarrier m f) := by
  rw [Avoids, carrier_modCarrier]
  split
  · rename_i hm
    subst hm
    rcases hf with hs | hs
    · exact hs
    · rw [hs]; exact h
  · exact h

/-- The scheduler and the exchange bring carriers to ACTIVE and to OFFERED only. -/
theorem Ease.keeps_avoids {p : Power} (e : Ease s t) (active : .active ≠ p) (offered : .offered ≠ p)
    (h : Avoids p n s) : Avoids p n t := by
  cases e with
  | notice u x _ => exact h
  | leaves m => rw [Avoids, carrier_unqueue]; split <;> exact h
  | joins m _ _ => rw [Avoids, carrier_joinQueue]; split <;> exact h
  | offers u m rest _ _ =>
    rw [Avoids, carrier_issueOffer]
    split
    · exact offered
    · exact h
  | activates m _ =>
    rw [Avoids]
    by_cases hm : n = m
    · subst hm
      rw [carrier_enterActive_same]
      exact active
    · rw [carrier_enterActive_ne s hm]
      exact h
  | settles x _ _ => exact h.modCarrier (.inr rfl)

theorem Eases.keeps_avoids {p : Power} (e : Eases s t) (active : .active ≠ p) (offered : .offered ≠ p)
    (h : Avoids p n s) : Avoids p n t := e.keeps (fun _ _ e => e.keeps_avoids active offered) h

theorem Powering.powered (h : Powering r s) (on : On r n s) (hp : (s.carrier n).power = .waking) :
    Powering r (powered n s) := by
  obtain ⟨provisioned, rail⟩ := on
  have active : Sound (some r) none (enterActive n s) :=
    ⟨carriersOk_enterActive h.sound.carriers (.inr hp),
      h.sound.agrees.enterActive provisioned fun hd => absurd (congrArg some rail.symm) hd⟩
  refine ⟨?_, ?_⟩
  · rw [Machine.powered]
    split
    · exact (active.post _ _).reevalDependents n
    · exact active.post _ _
  · rw [State.rail, (powered_eases n s hp).rails.1]
    exact h.state

/-- One turn of the loop over the carriers of the rail. -/
def powerTurn (r : RailId) (n : Site) (s : State) : State :=
  if (s.carrier n).provisioned && (s.carrier n).rail == r && (s.carrier n).power == .waking then powered n s else s

theorem powerCarriers_eq (r : RailId) (s : State) : powerCarriers r s = forList allSites (powerTurn r) s := rfl

theorem powerTurn_cases (r : RailId) (n : Site) (s : State) :
    On r n s ∧ (s.carrier n).power = .waking ∧ powerTurn r n s = powered n s ∨
      ¬ (On r n s ∧ (s.carrier n).power = .waking) ∧ powerTurn r n s = s := by
  rw [powerTurn]
  split <;> rename_i h <;> rw [Bool.and_eq_true, Bool.and_eq_true, beq_iff_eq, beq_iff_eq] at h
  · exact .inl ⟨h.1, h.2, rfl⟩
  · exact .inr ⟨h, rfl⟩

theorem powerTurn_eases (r : RailId) (n : Site) (s : State) : Eases s (powerTurn r n s) := by
  rcases powerTurn_cases r n s with ⟨-, hp, e⟩ | ⟨-, e⟩ <;> rw [e]
  exact powered_eases n s hp

theorem Powering.turn (h : Powering r s) (n : Site) : Powering r (powerTurn r n s) := by
  rcases powerTurn_cases r n s with ⟨on, hp, e⟩ | ⟨-, e⟩ <;> rw [e]
  · exact h.powered on hp
  · exact h

theorem powered_avoids {p : Power} (active : .active ≠ p) (offered : .offered ≠ p) (n : Site) (s : State) :
    Avoids p n (powered n s) := by
  have entered : Avoids p n (enterActive n s) := by
    rw [Avoids, carrier_enterActive_same]
    exact active
  rw [powered]
  split
  · exact (reevalDependents_eases n _).keeps_avoids active offered entered
  · exact entered

/-- After the loop no carrier on the rail waits in WAKING. -/
theorem Powering.awake (h : Powering r s) (on : On r n (powerCarriers r s)) :
    Avoids .waking n (powerCarriers r s) := by
  refine forList_reaches (P := Powering r) (Q := fun u => On r n u → Avoids .waking n u) (x := n) (fun m u hu => hu.turn m)
    (fun u _ on => ?_) (fun m u _ awake on => ?_) allSites s h (.inl (mem_allSites n)) on
  · rw [on_of_cascade (powerTurn_eases r n u).moves.cascade] at on
    rcases powerTurn_cases r n u with ⟨-, -, e⟩ | ⟨off, e⟩ <;> rw [e]
    · exact powered_avoids (p := .waking) nofun nofun n u
    · exact fun hp => off ⟨on, hp⟩
  · rw [on_of_cascade (powerTurn_eases r m u).moves.cascade] at on
    exact (powerTurn_eases r m u).keeps_avoids nofun nofun (awake on)

theorem Powering.powerCarriers (h : Powering r s) : Sound none none (powerCarriers r s) := by
  have powered : Powering r (Machine.powerCarriers r s) := by
    rw [powerCarriers_eq]
    exact forList_induction (Powering r) (powerTurn r) (fun n _ hu => hu.turn n) allSites s h
  refine ⟨powered.sound.carriers, powered.sound.agrees.lit fun n p draw => ?_⟩
  obtain ⟨on, rfl⟩ := on_of_draw draw
  exact ⟨fun _ => powered.state, fun hp => absurd hp (h.awake on)⟩

/-! ### The expiries of a rail -/

theorem Sound.rampSucceeds (h : Sound none none s) (hs : (s.rail r).state = .ramping)
    (good : (s.rail r).powerGood = true) : Sound none none (rampSucceeds r s) := by
  let v := s.modRail r fun x => { x with settleTimer := none, retry := false }
  have stopped : Sound none none v :=
    h.steady (rail_acts r _ s fun _ => by rfl) (steady_modRail rfl)
  have state : (v.rail r).state = .ramping := by rw [rail_modRail_same]; exact hs
  have told : (v.rail r).powerGood = true := by rw [rail_modRail_same]; exact good
  have unqueued : (v.rail r).state ≠ .queued := by rw [state]; exact nofun
  have acts : Acts v (v.modRail r fun x => { x with state := .on }) := rail_acts r _ v fun _ => by rfl
  rw [Machine.rampSucceeds]
  refine Sound.releaseSlot ?_
  split
  · rename_i hz
    exact ⟨(enterHold_acts r v).keeps_carriers stopped.carriers,
      stopped.agrees.enterHold (.inl rfl) (needCount_eq_zero_iff.1 hz) unqueued told⟩
  · rename_i hz
    refine Powering.powerCarriers ⟨⟨acts.keeps_carriers stopped.carriers, ?_⟩, by rw [rail_modRail_same]⟩
    exact stopped.agrees.modRail (fun hr => absurd hr ((stopped.agrees r).not_mem_queue unqueued))
      (fun hd => absurd rfl hd) (fun _ _ => needCount_pos_iff.1 (Nat.pos_of_ne_zero hz)) (fun _ => told)
      (fun _ _ he => by cases he) fun _ _ => id

/-- What waits on a rail in RAMPING goes on waiting when the ramp is to be tried again. -/
theorem Agrees.retries {f : Rail → Rail} (h : Agrees none none s) (hs : (s.rail r).state = .ramping)
    (hf : (f (s.rail r)).state = .retryWait) : Agrees none none (s.modRail r f) := by
  have cell := h r
  refine h.modRail (fun hr => absurd hr (cell.not_mem_queue (by rw [hs]; exact nofun))) (fun hd n p draw => ?_)
    (fun _ hon => ?_) (fun hon => ?_) (fun _ _ => id) fun _ _ => id
  · obtain ⟨serves, -⟩ := cell.fed hd n p draw
    rw [hs] at serves
    rw [hf]
    exact ⟨fun hp => absurd (serves hp) nofun, fun _ => .inr (.inr rfl)⟩
  · rw [hf] at hon; simp at hon
  · rw [hf] at hon; simp at hon

theorem Sound.rampFails (h : Sound none none s) (hs : (s.rail r).state = .ramping) :
    Sound none none (rampFails r s) := by
  rw [Machine.rampFails]
  split
  · exact (h.enterFault (by rw [hs]; exact nofun)).releaseSlot
  · refine Sound.releaseSlot ⟨(rail_acts r _ s fun _ => by rfl).keeps_carriers h.carriers, ?_⟩
    exact h.agrees.retries hs rfl

theorem Sound.settleExpires (h : Sound none none s) (hs : (s.rail r).state = .ramping) (level : Bool) :
    Sound none none (settleExpires r level s) := by
  have idle : (s.rail r).state ≠ .on ∧ (s.rail r).state ≠ .hold := by rw [hs]; exact ⟨nofun, nofun⟩
  have told : Sound none none (tellPowerGood r (sampledPowerGood s r level) s) :=
    ⟨(tellPowerGood_acts r _ s).keeps_carriers h.carriers, h.agrees.told idle _⟩
  have state : ((tellPowerGood r (sampledPowerGood s r level) s).rail r).state = .ramping := by
    rw [tellPowerGood, rail_modRail_same]; exact hs
  rw [Machine.settleExpires, if_pos (by rw [hs, beq_self_eq_true])]
  split
  · rename_i good
    exact told.rampSucceeds state (by rw [tellPowerGood, rail_modRail_same]; exact good)
  · exact told.rampFails state

/-- A rail in RETRY_WAIT goes back to the ramp queue for those that need it (R119). -/
theorem Agrees.requeues (h : Agrees none none s) (hs : (s.rail r).state = .retryWait) (needed : Needed r s) :
    Agrees none none (queueRail r .urgent s) := by
  have cell := h r
  have queued : Agrees none none (s.modRail r fun x => { x with state := .queued }) := by
    refine h.modRail (fun _ => rfl) (fun hd n p draw => ?_) (fun _ _ => needed) (fun hon => ?_) (fun _ _ => id)
      fun _ _ => id
    · obtain ⟨serves, -⟩ := cell.fed hd n p draw
      rw [hs] at serves
      exact ⟨fun hp => absurd (serves hp) nofun, fun _ => .inl rfl⟩
    · simp at hon
  exact (queued.joinRamp (by rw [rail_modRail_same]) .urgent).grant

theorem Sound.retryExpires (h : Sound none none s) (r : RailId) : Sound none none (retryExpires r s) := by
  refine ⟨(retryExpires_acts r s).keeps_carriers h.carriers, ?_⟩
  have stopped : Agrees none none (s.modRail r fun x => { x with retryTimer := none }) :=
    h.agrees.steady (steady_modRail rfl)
  rw [Machine.retryExpires]
  split
  · rename_i hs
    rw [beq_iff_eq] at hs
    have waits : ((s.modRail r fun x => { x with retryTimer := none }).rail r).state = .retryWait := by
      rw [rail_modRail_same]; exact hs
    split
    · rename_i hz
      exact stopped.modRail_unneeded (needCount_eq_zero_iff.1 hz)
        ((stopped r).not_mem_queue (by rw [waits]; exact nofun)) ⟨nofun, nofun⟩ nofun (fun _ _ => id) fun _ _ => id
    · rename_i hz
      exact stopped.requeues waits (needCount_pos_iff.1 (Nat.pos_of_ne_zero hz))
  · exact stopped

/-- A FAULTED carrier is cleared. -/
theorem Sound.recovers (h : Sound none none s) (hp : (s.carrier n).power = .faulted) (cls : RampClass) :
    Sound none none (Machine.enterWaking n cls s) :=
  Sound.enterWaking (n := n) ((Act.recovers n hp).keeps_carriers h.carriers) h.agrees
    (provisioned_of_power h.carriers (by rw [hp]; exact nofun)) cls

end

end Sys2Proof.Machine
end

/-! # Every command keeps carriers and rails in agreement -/

section

namespace Sys2Proof.Machine

/-- A change that the laws of the carriers and of power outlast. -/
def Lawful (s t : State) : Prop := Sound none none s → Sound none none t

section

variable {n : Site} {r : RailId} {s t u : State}

theorem Lawful.refl (s : State) : Lawful s s := id

theorem Lawful.trans (h : Lawful s t) (k : Lawful t u) : Lawful s u := k ∘ h

theorem Steady.lawful (k : Steady s t) (acts : Acts s t) : Lawful s t := fun h => h.steady acts k

/-- A change made on a condition. -/
theorem ite_lawful (c : Prop) [Decidable c] (h : c → Lawful s t) : Lawful s (if c then t else s) := by
  split
  · rename_i hc; exact h hc
  · exact .refl s

theorem forList_lawful {α : Type} (f : α → State → State) (hf : ∀ x s, Lawful s (f x s)) (l : List α) (s : State) :
    Lawful s (forList l f s) :=
  forList_induction (Lawful s) f (fun x u h => h.trans (hf x u)) l s (.refl s)

/-! ### Changes that no rail feels -/

/-- Nothing changes in carriers, rails and ramp queue. -/
theorem parts_lawful (acts : Acts s t) (carriers : t.carriers = s.carriers := by rfl)
    (rails : t.rails = s.rails := by rfl) (ramp : t.ramp = s.ramp := by rfl) : Lawful s t :=
  (steady_of_parts carriers rails ramp).lawful acts

theorem port_lawful (t : Tenant) (f : Port → Port) (s : State) (h : ∀ p, (f p).settings = p.settings) :
    Lawful s (s.modPort t f) := (modPort_steady t f s).lawful (port_acts t f s h)

theorem rail_lawful (r : RailId) (f : Rail → Rail) (s : State) (acts : Acts s (s.modRail r f))
    (h : ∀ x, (f x).supply = x.supply) : Lawful s (s.modRail r f) := (steady_modRail (h _)).lawful acts

/-- A record is written, but for what it draws. -/
theorem carrier_lawful {f : Carrier → Carrier} (acts : Acts s (s.modCarrier n f))
    (draw : (f (s.carrier n)).draw = (s.carrier n).draw) : Lawful s (s.modCarrier n f) :=
  (steady_modCarrier draw).lawful acts

theorem unqueue_lawful (n : Site) (s : State) : Lawful s (unqueue n s) :=
  (unqueue_steady n s).lawful (Eases.acts (Ease.leaves n).run)

theorem post_lawful (t : Tenant) (x : Notice) (s : State) : Lawful s (post t x s) := fun h => h.post t x

theorem reeval_lawful (n : Site) (s : State) : Lawful s (reeval n s) := fun h => h.reeval n

theorem reevalDependents_lawful (x : Site) (s : State) : Lawful s (reevalDependents x s) :=
  fun h => h.reevalDependents x

theorem withdraw_lawful (n : Site) (why : Reason) (s : State) : Lawful s (withdraw n why s) := fun h => h.withdraw n why

theorem wakeCarrier_lawful (n : Site) (cls : RampClass) (s : State) : Lawful s (wakeCarrier n cls s) :=
  fun h => h.wakeCarrier n cls

theorem holdoff_lawful (x : Site) (v : Option Time) (s : State) :
    Lawful s (s.modCarrier x fun c => { c with holdoff := v }) := fun h => h.holdoff x v

theorem addAlert_lawful (code : Fin 10) (s : State) : Lawful s (addAlert code s) := parts_lawful (addAlert_acts code s)

/-! ### Rails -/

theorem setRailRule_lawful (rail idle even full reduced : Nat) (s : State) :
    Lawful s (setRailRule rail idle even full reduced s).1 := by
  have acts := setRailRule_acts rail idle even full reduced s
  rw [setRailRule] at acts ⊢
  split at acts
  · exact .refl s
  · split at acts
    · rename_i hf
      rw [if_pos hf]
      rw [answerOk_fst] at acts ⊢
      exact rail_lawful _ _ s acts fun _ => rfl
    · rename_i hf
      rw [if_neg hf]
      exact .refl s

theorem setBiasRule_lawful (rail cls : Nat) (s : State) : Lawful s (setBiasRule rail cls s).1 := by
  rw [setBiasRule]
  split
  · exact .refl s
  · split
    · exact .refl s
    · rw [answerOk_fst]
      refine rail_lawful _ _ s (rail_acts _ _ s fun x => ?_) fun x => ?_ <;> rw [Rail.setBias] <;> split <;> rfl

theorem clearTally_lawful (r : RailId) (s : State) : Lawful s (s.modRail r Rail.clearTally) :=
  rail_lawful r _ s (clearTally_acts r s) fun _ => rfl

theorem clearTallyRule_lawful (rail : Nat) (s : State) : Lawful s (clearTallyRule rail s).1 := by
  rw [clearTallyRule]
  split
  · exact forList_lawful _ clearTally_lawful _ s
  · split
    · exact .refl s
    · exact clearTally_lawful _ s

/-- A rail in FAULT has no need, and it may be switched off. -/
theorem Agrees.cleared {f : Rail → Rail} (h : Agrees none none s) (hs : (s.rail r).state = .fault)
    (hf : (f (s.rail r)).state = .off) : Agrees none none (s.modRail r f) := by
  have cell := h r
  refine h.modRail_unneeded (cell.not_needed nofun (.inr (.inr hs))) (cell.not_mem_queue (by rw [hs]; exact nofun)) ?_ ?_
    (fun _ _ => id) fun _ _ => id
  · rw [hf]; exact ⟨nofun, nofun⟩
  · rw [hf]; exact nofun

theorem clearFaultRailRule_lawful (rail : Nat) (s : State) : Lawful s (clearFaultRailRule rail s).1 := by
  rw [clearFaultRailRule]
  split
  · exact .refl s
  · rename_i r _
    split
    · exact .refl s
    · rename_i hs
      rw [bne_iff_ne, not_not] at hs
      rw [answerOk_fst]
      have off : Lawful s (s.modRail r fun x => { x with state := .off, retry := false }) := fun h =>
        ⟨(rail_acts r _ s fun _ => by rfl).keeps_carriers h.carriers, h.agrees.cleared hs rfl⟩
      refine off.trans (forList_lawful _ (fun n u => ite_lawful _ fun hn => ?_) allSites _)
      simp only [Bool.and_eq_true, beq_iff_eq] at hn
      exact fun h => h.recovers hn.1.2 .urgent

theorem clearFaultCarrierRule_lawful (n : Nat) (s : State) : Lawful s (clearFaultCarrierRule n s).1 := by
  rw [clearFaultCarrierRule]
  split
  · exact .refl s
  · split
    · rename_i i _ hc
      exact fun h => h.recovers ((clearable_iff s i).1 hc).1 .ordinary
    · exact .refl s

/-! ### Carriers -/

/-- A record out of use changes in whatever it holds, its power state apart. -/
theorem offline_lawful {f : Carrier → Carrier} (acts : Acts s (s.modCarrier n f))
    (off : CarriersOk s → (s.carrier n).power = .offline) (hf : (f (s.carrier n)).power = (s.carrier n).power) :
    Lawful s (s.modCarrier n f) := by
  intro h
  have offline := off h.carriers
  refine carrier_lawful acts ?_ h
  rw [draw_of_not_needs (by rw [hf, offline]; rfl), draw_of_not_needs (by rw [offline]; rfl)]

theorem setCarrierRule_lawful (n owner role rail count a0 a1 a2 : Nat) (trim : Int) (s : State) :
    Lawful s (setCarrierRule n owner role rail count a0 a1 a2 trim s).1 := by
  rw [setCarrierRule]
  split
  · exact .refl s
  · split
    · exact .refl s
    · rename_i i _ hidle
      split
      · dsimp only
        split
        · rename_i h
          simp only [Bool.and_eq_true, decide_eq_true_eq] at h
          obtain ⟨⟨⟨-, htrim⟩, hfit⟩, hdep⟩ := h
          have provisionable := provisionable_of_checks hidle (List.length_take_le' _ _) htrim hfit hdep
          refine offline_lawful (Act.provisions i _ _ _ _ trim provisionable).run (fun hc => ?_) rfl
          by_cases hp : (s.carrier i).provisioned = true
          · exact provisionable.idle hp
          · exact (hc.record i).of_unprovisioned (by simpa using hp)
        · exact .refl s
      · exact .refl s

theorem clearCarrierRule_lawful (n : Nat) (s : State) : Lawful s (clearCarrierRule n s).1 := by
  rw [clearCarrierRule]
  split
  · exact .refl s
  · split
    · exact .refl s
    · rename_i i _ hp
      split
      · exact .refl s
      · rename_i hl
        rw [listedByOther_iff] at hl
        have offline : (s.carrier i).power = .offline := by simpa using hp
        exact offline_lawful (Act.clears i offline fun m hm hpm hmem => hl ⟨m, hm, hpm, hmem⟩).run (fun _ => offline) rfl

/-- A carrier is enabled with its pins (R16). -/
theorem enable_lawful (cls : RampClass) (hp : (s.carrier n).provisioned = true) (off : (s.carrier n).power = .offline) :
    Lawful s (enterWaking n cls (enablePins s n)) := by
  intro h
  obtain ⟨p, e⟩ := enablePins_eq s n
  rw [e]
  refine Sound.enterWaking (n := n) ?_ (h.agrees.steady (steady_modCarrier ?_)) ?_ cls
  · rw [modCarrier_modCarrier]
    exact (Act.enables n p hp off).keeps_carriers h.carriers
  · exact draw_congr rfl rfl rfl
  · rw [carrier_modCarrier_same]
    exact hp

theorem enableRule_lawful (n : Nat) (s : State) : Lawful s (enableRule n s).1 := by
  rw [enableRule]
  split
  · exact .refl s
  · rename_i i hi
    obtain ⟨-, hprov⟩ := provisionedSite_eq_some.1 hi
    dsimp only
    split
    · exact .refl s
    · rename_i hp
      split
      · exact .refl s
      · split
        · exact .refl s
        · exact enable_lawful .ordinary hprov (by simpa using hp)

theorem disableRule_lawful (n : Nat) (s : State) : Lawful s (disableRule n s).1 := by
  rw [disableRule]
  split
  · exact .refl s
  · split
    · exact .refl s
    · rename_i hp
      exact fun h => h.disableCarrier (by simpa using hp)

theorem pins_lawful {src : PinSource} {v : Bool} (hv : (s.carrier n).power = .offline → v = false) :
    Lawful s (s.modCarrier n fun c => { c with pins := c.pins.put src v }) :=
  carrier_lawful (Act.pins n src v hv).run (draw_congr rfl rfl rfl)

theorem addPin_lawful (src : PinSource) (n : Site) (s : State) (h : (s.carrier n).power ≠ .offline) :
    Lawful s (addPin src n s) := by
  rw [addPin]
  split
  · exact .refl s
  · refine (pins_lawful (src := src) (v := true) fun ho => absurd ho h).trans ?_
    split
    · exact unqueue_lawful n _
    · exact withdraw_lawful n _ _
    · exact withdraw_lawful n _ _
    · exact wakeCarrier_lawful n _ _
    all_goals exact .refl _

theorem removePin_lawful (src : PinSource) (n : Site) (s : State) : Lawful s (removePin src n s) := by
  rw [removePin]
  split
  · exact (pins_lawful (n := n) (src := src) (v := false) fun _ => rfl).trans (ite_lawful _ fun _ => reeval_lawful n _)
  · exact .refl s

theorem pinRule_lawful (n : Nat) (s : State) : Lawful s (pinRule n s).1 := by
  rw [pinRule]
  split
  · exact .refl s
  · split
    · exact .refl s
    · rename_i i _ h
      exact addPin_lawful .site i s (by simpa using h)

theorem unpinRule_lawful (n : Nat) (s : State) : Lawful s (unpinRule n s).1 := by
  rw [unpinRule]
  split
  · exact .refl s
  · split
    · exact .refl s
    · exact removePin_lawful .site _ s

theorem setSlicesRule_lawful (tenant p0 p1 : Nat) (s : State) : Lawful s (setSlicesRule tenant p0 p1 s).1 := by
  rw [setSlicesRule]
  split
  · split
    · exact .refl s
    · split
      · exact .refl s
      · rw [answerOk_fst]
        exact port_lawful _ _ s fun _ => rfl
  · exact .refl s

/-! ### Expiries -/

theorem staleExpires_lawful (n : Site) (s : State) : Lawful s (staleExpires n s) := by
  have stop : Lawful s (s.modCarrier n fun c => { c with staleTimer := none }) :=
    carrier_lawful (Moves.acts (Move.staleStops n).run) (draw_congr rfl rfl rfl)
  cases hp : (s.carrier n).power with
  | active =>
    have staled : Lawful s (staled n s) := by
      rw [staled_eq]
      exact (carrier_lawful (Moves.acts (Move.stales n hp).run) (draw_congr rfl rfl rfl)).trans (unqueue_lawful n _)
    rw [staleExpires_active hp]
    split
    · exact staled.trans (reevalDependents_lawful n _)
    · exact staled
  | offered => rw [staleExpires_offered n s hp]; exact withdraw_lawful n _ s
  | _ => simp only [staleExpires, hp]; exact stop

theorem dwellEnds_lawful (n : Site) (s : State) : Lawful s (dwellEnds n s) := by
  have acts := (dwellEnds_moves n s).acts
  obtain ⟨d, e⟩ := dwellEnds_eq n s
  rw [e] at acts ⊢
  exact carrier_lawful acts (draw_congr rfl rfl rfl)

theorem minAwakeEnds_lawful (n : Site) (s : State) : Lawful s (minAwakeEnds n s) := by
  have acts := (minAwakeEnds_moves n s).acts
  obtain ⟨m, e⟩ := minAwakeEnds_eq n s
  rw [e] at acts ⊢
  exact carrier_lawful acts (draw_congr rfl rfl rfl)

theorem schedulerEnds_lawful (kinds : List Period) (n : Site) (s : State) : Lawful s (schedulerEnds kinds n s) := by
  rw [schedulerEnds]
  cases kinds.contains .dwell && dwellDue s n <;> cases kinds.contains .minAwake && minAwakeDue s n
  · exact .refl s
  · exact (minAwakeEnds_lawful n s).trans (reeval_lawful n _)
  · exact (dwellEnds_lawful n s).trans (reeval_lawful n _)
  · exact ((dwellEnds_lawful n s).trans (minAwakeEnds_lawful n _)).trans (reeval_lawful n _)

theorem answerExpires_lawful (n : Site) (s : State) : Lawful s (answerExpires n s) := by
  by_cases h : (s.carrier n).power = .offered
  · rw [answerExpires_offered n s h]; exact withdraw_lawful n _ s
  · rw [answerExpires, if_neg (by simp [h])]
    exact carrier_lawful (Moves.acts (Move.answerStops n h).run) (draw_congr rfl rfl rfl)

theorem drainExpires_lawful (n : Site) (s : State) : Lawful s (drainExpires n s) := by
  by_cases h : (s.carrier n).power = .draining
  · rw [drainExpires_draining n s h]; exact withdraw_lawful n _ s
  · rw [drainExpires, if_neg (by simp [h])]
    exact carrier_lawful (Moves.acts (Move.drainStops n h).run) (draw_congr rfl rfl rfl)

theorem exchangeEnds_lawful (kinds : List Period) (n : Site) (s : State) : Lawful s (exchangeEnds kinds n s) := by
  rw [exchangeEnds]
  split
  · exact answerExpires_lawful n s
  · exact ite_lawful _ fun _ => drainExpires_lawful n s

theorem graceExpires_lawful (r : RailId) (s : State) : Lawful s (graceExpires r s) := fun h => h.graceExpires r

theorem endPeriods_lawful (kinds : List Period) (s : State) : Lawful s (endPeriods kinds s) := by
  rw [endPeriods]
  refine ((((forList_lawful _ (fun n u => ?_) allSites s).trans (forList_lawful _ (fun n u => ?_) allSites _)).trans
    (forList_lawful _ (fun n u => ?_) allSites _)).trans (forList_lawful _ (fun n u => ?_) allSites _)).trans
    (forList_lawful _ (fun r u => ?_) allRails _)
  · exact ite_lawful _ fun _ => staleExpires_lawful n u
  · exact schedulerEnds_lawful kinds n u
  · exact exchangeEnds_lawful kinds n u
  · exact ite_lawful _ fun _ => holdoff_lawful n none u
  · exact ite_lawful _ fun _ => graceExpires_lawful r u

theorem rebank_lawful (before : Fin 2) (s : State) : Lawful s (rebank before s) := by
  rw [rebank]
  split
  · exact .refl s
  · exact endPeriods_lawful _ s

/-! ### Night, clock, lines and banks -/

theorem emptyQueue_lawful (t : Tenant) (s : State) : Lawful s (emptyQueue t s) := by
  obtain ⟨-, -, -, records⟩ := emptyQueue_records t s
  obtain ⟨rails, ramp, -⟩ := emptyQueue_rails t s
  refine Steady.lawful ⟨fun n => ?_, fun r => ?_, ?_⟩ (Moves.acts (Move.empties t).run)
  · obtain ⟨x, e⟩ := records n
    rw [e]
    exact draw_congr rfl rfl rfl
  · rw [State.rail, rails]; rfl
  · rw [ramp]; exact List.Subset.refl _

theorem nightEnd_lawful (cause : NightEnd) (s : State) : Lawful s (nightEnd cause s) := by
  have dawned : Lawful s (dawned s) :=
    ((emptyQueue_lawful .a s).trans (emptyQueue_lawful .b _)).trans (emptyQueue_lawful .c _)
  rw [nightEnd_eq]
  exact fun h => ((dawned h).withdrawWhere _ _).bulkWake _ _

theorem renight_lawful (before : Bool) (cause : NightEnd) (s : State) : Lawful s (renight before cause s) := by
  rcases renight_cases before cause s with ⟨-, e⟩ | ⟨-, -, e⟩ | ⟨-, -, e⟩ <;> rw [e]
  · exact .refl s
  · rw [nightStart_eq_where]
    exact fun h => h.reevalWhere _
  · exact nightEnd_lawful cause s

theorem inputs_lawful (i : Inputs) (s : State) : Lawful s { s with inputs := i } := parts_lawful (Act.inputs i).run

theorem debounceExpires_lawful (line : InputLine) (s : State) : Lawful s (debounceExpires line s) :=
  ((inputs_lawful _ s).trans (renight_lawful _ _ _)).trans (rebank_lawful _ _)

theorem recheckLine_lawful (line : InputLine) (s : State) : Lawful s (recheckLine line s) :=
  (inputs_lawful _ s).trans (ite_lawful _ fun _ => debounceExpires_lawful line _)

theorem setWindowRule_lawful (window enabled start stop : Nat) (s : State) :
    Lawful s (setWindowRule window enabled start stop s).1 := by
  rw [setWindowRule]
  split
  · rename_i hw
    split
    · exact .refl s
    · split
      · rename_i h
        simp only [Bool.and_eq_true, decide_eq_true_eq] at h
        refine (parts_lawful (Act.clock _ fun ⟨hwin, htod, hsub⟩ => ⟨?_, htod, hsub⟩).run).trans (renight_lawful _ _ _)
        exact getElem_set_ok (P := fun w : Window => w.start ≤ 1439 ∧ w.stop ≤ 1439) _ _ hw _ hwin h
      · exact .refl s
  · exact .refl s

theorem setTimeRule_lawful (tod : Nat) (s : State) : Lawful s (setTimeRule tod s).1 := by
  rw [setTimeRule]
  split
  · rename_i h
    exact (parts_lawful (Act.clock _ fun ⟨hwin, _, hsub⟩ => ⟨hwin, h, hsub⟩).run).trans (renight_lawful _ _ _)
  · exact .refl s

theorem setInputsRule_lawful (hold source debounce : Nat) (s : State) :
    Lawful s (setInputsRule hold source debounce s).1 := by
  rw [setInputsRule]
  split
  · exact ((inputs_lawful _ s).trans (recheckLine_lawful _ _)).trans (recheckLine_lawful _ _)
  · exact .refl s

theorem writeParam_lawful (b : Fin 2) (code v : Nat) (s : State)
    (h : BankOk s.banks.bank[b] → BankOk (s.banks.bank[b].withParam code v)) : Lawful s (writeParam b code v s) := by
  have write : Lawful s { s with banks :=
      { s.banks with bank := s.banks.bank.set b.val (s.banks.bank[b.val].withParam code v) } } :=
    parts_lawful (Act.banks _ fun hb => getElem_set_ok _ _ b.isLt _ hb (h (hb b))).run
  rw [writeParam]
  dsimp only
  split
  · exact write.trans (endPeriods_lawful _ _)
  · exact write

theorem setBankParamRule_lawful (bk code v : Nat) (s : State) : Lawful s (setBankParamRule bk code v s).1 := by
  rw [setBankParamRule]
  split
  · split
    · exact .refl s
    · rename_i hc
      split
      · exact .refl s
      · rename_i hr
        simp only [Bool.or_eq_true, decide_eq_true_eq, not_or, Nat.not_lt] at hr
        split
        · exact .refl s
        · rename_i ho
          exact writeParam_lawful _ _ _ _ fun hb => withParam_ok hb (Nat.not_le.1 hc) hr.1 hr.2 (by simpa using ho)
  · exact .refl s

theorem selectBankRule_lawful (mode : Nat) (s : State) : Lawful s (selectBankRule mode s).1 := by
  rw [selectBankRule]
  split
  · exact .refl s
  · rename_i m _
    have write : Lawful s { s with banks := { s.banks with mode := m } } :=
      parts_lawful (Act.banks _ fun h => by exact h).run
    exact write.trans (rebank_lawful _ _)

theorem writeStandDown_lawful (v : Bool) (s : State) : Lawful s (writeStandDown v s) :=
  (inputs_lawful _ s).trans (renight_lawful _ _ _)

theorem tallySecond_supply (x : Rail) : x.tallySecond.supply = x.supply := by
  rw [Rail.tallySecond]
  split <;> rfl

theorem secondPasses_lawful (s : State) : Lawful s (secondPasses s) := by
  have second : Lawful s { s with clock := s.clock.endSecond } := parts_lawful (Act.clock _ endSecond_ok).run
  refine (second.trans (forList_lawful _ (fun r u => ?_) allRails _)).trans (renight_lawful _ _ _)
  exact rail_lawful r _ u (tallySecond_acts r u) tallySecond_supply

end

end Sys2Proof.Machine
end

/-! # Requests, ports and commands on the rails -/

section

namespace Sys2Proof.Machine

/-! ### Tenant requests -/

theorem surge_lawful (x : Site) (s : State) : Lawful s (surge x s) := by
  rw [surge]
  split
  · exact .refl s
  · split
    · exact .refl s
    · split
      · exact .refl s
      · exact (wakeCarrier_lawful _ .ordinary s).trans (holdoff_lawful x _ _)

theorem scheduled_lawful {n : Site} (util users : Nat) {s : State}
    (h : (s.carrier n).power = .active ∨ (s.carrier n).power = .offered ∨ (s.carrier n).power = .draining) :
    Lawful s (scheduled n util users s) := by
  have reported : Lawful s (reported n util users s) := carrier_lawful (reported_acts util users h) (draw_congr rfl rfl rfl)
  rw [scheduled_eq]
  dsimp only
  split
  · split
    · exact (reported.trans (reeval_lawful n _)).trans (reevalDependents_lawful n _)
    · exact reported.trans (reeval_lawful n _)
  · exact reported

theorem report_lawful (n : Site) (util users : Nat) (s : State)
    (h : (s.carrier n).power = .active ∨ (s.carrier n).power = .offered ∨ (s.carrier n).power = .draining) :
    Lawful s (report n util users s) := by
  rw [report_eq]
  exact ((scheduled_lawful util users h).trans (ite_lawful _ fun _ => withdraw_lawful n .busy _)).trans
    (ite_lawful _ fun _ => surge_lawful n _)

theorem loadRule_lawful (util users : Nat) (n : Site) (s : State) : Lawful s (loadRule util users n s).state := by
  rw [loadRule]
  split
  · rename_i h; exact report_lawful n util users s (.inl h)
  · rename_i h; exact report_lawful n util users s (.inr (.inl h))
  · rename_i h; exact report_lawful n util users s (.inr (.inr h))
  all_goals exact .refl s

/-- A carrier in OFFERED goes on to DRAINING. -/
theorem startDrain_lawful {n : Site} {s : State} (hp : (s.carrier n).power = .offered) : Lawful s (startDrain n s) := by
  intro h
  have provisioned := provisioned_of_power h.carriers (n := n) (by rw [hp]; exact nofun)
  exact ⟨(Act.drains n hp).keeps_carriers h.carriers,
    h.agrees.serves provisioned (by rw [hp]; rfl) rfl provisioned rfl⟩

theorem acceptRule_lawful (token : Nat) (n : Site) (s : State) : Lawful s (acceptRule token n s).state := by
  rw [acceptRule]
  split
  · rename_i h
    rw [Bool.and_eq_true, beq_iff_eq] at h
    exact startDrain_lawful h.1
  · exact .refl s

theorem declineRule_lawful (token : Nat) (n : Site) (s : State) : Lawful s (declineRule token n s).state := by
  rw [declineRule]
  split
  · rename_i hx
    rw [Bool.and_eq_true] at hx
    exact fun h => (h.returnToActive hx.1).dispatch _
  · exact .refl s

theorem drainedRule_lawful (token : Nat) (n : Site) (s : State) : Lawful s (drainedRule token n s).state := by
  rw [drainedRule]
  split
  · rename_i hx
    rw [Bool.and_eq_true] at hx
    exact fun h => h.fallAsleep hx.1
  · exact .refl s

theorem wakeRule_lawful (n : Site) (s : State) : Lawful s (wakeRule n s).state := by
  rw [wakeRule]
  split
  · exact wakeCarrier_lawful n .ordinary s
  · exact withdraw_lawful n .busy s
  · exact withdraw_lawful n .busy s
  all_goals exact .refl s

theorem keepRule_lawful (n : Site) (s : State) : Lawful s (keepRule n s).state := by
  rw [keepRule]
  split
  · exact .refl s
  · rename_i h
    exact addPin_lawful .tenant n s (by simpa using h)

theorem unkeepRule_lawful (n : Site) (s : State) : Lawful s (unkeepRule n s).state := by
  rw [unkeepRule]
  split
  · exact .refl s
  · exact removePin_lawful .tenant n s

theorem faultRule_lawful (n : Site) (s : State) : Lawful s (faultRule n s).state := by
  rw [faultRule]
  split
  · rename_i hp
    exact fun h => h.tenantFault hp
  · exact .refl s

theorem clearRule_lawful (n : Site) (s : State) : Lawful s (clearRule n s).state := by
  rw [clearRule]
  split
  · rename_i hc
    exact fun h => h.recovers ((clearable_iff s n).1 hc).1 .ordinary
  · exact .refl s

theorem handle_lawful (t : Tenant) (kind num unused : Nat) (silent : Bool) (rule : Site → State → Answer) (s : State)
    (h : ∀ n, Lawful s (rule n s).state) : Lawful s (handle t kind num unused silent rule s) := by
  rw [handle]
  split
  · exact post_lawful _ _ s
  · rename_i n _
    split
    · dsimp only
      split
      · exact h n
      · exact (h n).trans (post_lawful _ _ _)
    · exact post_lawful _ _ s

theorem handleRequest_lawful (i : Instr) (s : State) : Lawful s (handleRequest i s) := by
  rw [handleRequest.eq_def]
  split
  · exact handle_lawful _ _ _ _ _ _ s fun n => loadRule_lawful _ _ n s
  · exact handle_lawful _ _ _ _ _ _ s fun n => acceptRule_lawful _ n s
  · exact handle_lawful _ _ _ _ _ _ s fun n => declineRule_lawful _ n s
  · exact handle_lawful _ _ _ _ _ _ s fun n => drainedRule_lawful _ n s
  · exact handle_lawful _ _ _ _ _ _ s fun n => wakeRule_lawful n s
  · exact handle_lawful _ _ _ _ _ _ s fun n => keepRule_lawful n s
  · exact handle_lawful _ _ _ _ _ _ s fun n => unkeepRule_lawful n s
  · exact handle_lawful _ _ _ _ _ _ s fun n => faultRule_lawful n s
  · exact handle_lawful _ _ _ _ _ _ s fun n => clearRule_lawful n s
  · exact handle_lawful _ _ _ _ _ _ s fun _ => .refl s
  · exact post_lawful _ _ s
  · exact .refl s

theorem whenTaken_lawful (t : Tenant) (i : Instr) (s : State) : Lawful s (whenTaken t (handleRequest i) s) :=
  ite_lawful _ fun _ => handleRequest_lawful i s

theorem takeUpTo_lawful : ∀ (k : Nat) (t : Tenant) (s : State), Lawful s (takeUpTo k t s)
  | 0, _, s => .refl s
  | k + 1, t, s => by
    rw [takeUpTo]
    split
    · exact .refl s
    · exact ite_lawful _ fun _ => ((port_lawful t _ s fun _ => by rfl).trans (handleRequest_lawful _ _)).trans
        (takeUpTo_lawful k t _)

theorem takeRequests_lawful (t : Tenant) (s : State) : Lawful s (takeRequests t s) := takeUpTo_lawful _ t s

/-! ### Link supervision and the tenant ports -/

theorem setLinkPins_steady (t : Tenant) (v : Bool) (which : Carrier → Bool) (s : State) :
    Steady s (setLinkPins t v which s) := by
  refine forSites_induction (Steady s) _ (fun n u hu => ?_) s (.refl s)
  split
  · exact hu.trans (steady_modCarrier (draw_congr rfl rfl rfl))
  · exact hu

theorem enterLinked_lawful (t : Tenant) (s : State) : Lawful s (enterLinked t s) := by
  have linked := port_lawful t (fun p => { p with link := .linked, windowTimer := startWindow p s.now }) s fun _ => rfl
  have unpinned (u : State) : Lawful u (setLinkPins t false (fun _ => true) u) :=
    (setLinkPins_steady t false _ u).lawful (setLinkPins_acts t false _ u fun _ _ _ => rfl)
  have owned (u : State) : Lawful u (reevalOwned t u) := fun h => h.reevalWhere fun v n => ownedBy t v n
  exact ((linked.trans (unpinned _)).trans (owned _)).trans (takeRequests_lawful t _)

theorem silenced_lawful (t : Tenant) (state : LinkState) (s : State) : Lawful s (silenced t state s) := by
  have closed := port_lawful t (fun p => { p with link := state, windowTimer := none }) s fun _ => rfl
  have pinned (u : State) : Lawful u (setLinkPins t true (fun c => c.power != .offline) u) :=
    (setLinkPins_steady t true _ u).lawful
      (setLinkPins_acts t true _ u fun c hc hp => by rw [hp] at hc; cases hc)
  exact (closed.trans (emptyQueue_lawful t _)).trans (pinned _)

theorem enterSilent_lawful (t : Tenant) (state : LinkState) (s : State) : Lawful s (enterSilent t state s) := by
  rw [enterSilent_eq]
  exact fun h => ((silenced_lawful t state s h).withdrawWhere _ _).bulkWake _ _

theorem enterDisabled_lawful (t : Tenant) (s : State) : Lawful s (enterDisabled t s) :=
  (enterSilent_lawful t .disabled s).trans
    ((modPort_steady t Port.cleared _).lawful (Act.port t Port.cleared (fun _ h => h) fun _ => .inr rfl).run)

theorem writePort_lawful {t : Tenant} {window slots : Nat} {s : State} (hw : window = 0 ∨ 2 ≤ window ∧ window ≤ 60)
    (hs : 1 ≤ slots ∧ slots ≤ 4) : Lawful s (writePort t window slots s) :=
  (modPort_steady t _ s).lawful (writePort_acts t window slots s hw hs)

theorem setPortEffect_lawful (t : Tenant) (en : Bool) (window slots : Nat) (s : State)
    (hw : window = 0 ∨ 2 ≤ window ∧ window ≤ 60) (hs : 1 ≤ slots ∧ slots ≤ 4) :
    Lawful s (setPortEffect t en window slots s) := by
  rw [setPortEffect.eq_def]
  split
  · exact writePort_lawful hw hs
  · exact (writePort_lawful hw hs).trans (enterLinked_lawful t _)
  · exact .refl s
  · exact (enterDisabled_lawful t s).trans (writePort_lawful hw hs)

theorem setPortRule_lawful (tenant enabled window slots : Nat) (s : State) :
    Lawful s (setPortRule tenant enabled window slots s).1 := by
  rw [setPortRule]
  split
  · rename_i t en _ _
    dsimp only
    split
    · exact .refl s
    · rename_i hr
      simp only [Bool.or_eq_true, decide_eq_true_eq, not_or] at hr
      split
      · exact .refl s
      · exact setPortEffect_lawful t en window slots s (by omega) (by omega)
  · exact .refl s

theorem linkWindowExpires_lawful (t : Tenant) (s : State) : Lawful s (linkWindowExpires t s) := by
  rw [linkWindowExpires]
  split
  · exact (enterSilent_lawful t .lost s).trans (addAlert_lawful _ _)
  · exact port_lawful t _ s fun _ => rfl

theorem ackAlertRule_lawful (count : Nat) (slots : List Nat) (s : State) :
    Lawful s (ackAlertRule count slots s).1 := by
  have acts := ackAlertRule_acts count slots s
  refine parts_lawful acts ?_ ?_ ?_ <;> rw [ackAlertRule] <;> split <;> rfl

theorem selectFalls_lawful (t : Tenant) (s : State) : Lawful s (selectFalls t s) :=
  (modPort_steady t _ s).lawful (selectFalls_acts t s)

theorem clockRises_lawful (t : Tenant) (tdin : Bool) (s : State) : Lawful s (clockRises t tdin s) :=
  (modPort_steady t _ s).lawful (clockRises_acts t tdin s)

theorem stallExpires_lawful (t : Tenant) (s : State) : Lawful s (stallExpires t s) :=
  (modPort_steady t _ s).lawful (stallExpires_acts t s)

theorem deliver_lawful (t : Tenant) (s : State) : Lawful s (deliver t s) :=
  (port_lawful t _ s fun _ => by rfl).trans (ite_lawful _ fun _ => takeRequests_lawful t _)

theorem linkHeard_lawful (t : Tenant) (s : State) : Lawful s (linkHeard t s) := by
  rw [linkHeard]
  split
  · exact port_lawful t _ s fun _ => rfl
  · exact enterLinked_lawful t s
  · exact .refl s

theorem arrive_lawful (t : Tenant) (q : Request) (s : State) : Lawful s (arrive t q s) := by
  rw [arrive]
  split
  · exact .refl s
  · split
    · exact port_lawful t _ s fun _ => rfl
    · exact (port_lawful t _ s fun _ => by rfl).trans (addAlert_lawful _ _)

theorem frameKind_lawful (t : Tenant) (q : Request) (s : State) : Lawful s (frameKind t q s) := by
  rw [frameKind]
  split
  · exact .refl s
  · split
    · exact port_lawful t _ s fun _ => rfl
    · exact arrive_lawful t q s

theorem endTransfer_lawful (t : Tenant) (edges : Nat) (inb : BitVec 128) (s : State) :
    Lawful s (endTransfer t edges inb s) := by
  rw [endTransfer]
  refine (port_lawful t (fun p => { p with transfer := .idle, stallTimer := none }) s fun _ => rfl).trans ?_
  split
  · exact port_lawful t _ _ returnLatch_settings
  · refine (deliver_lawful t _).trans ?_
    split
    · exact ((linkHeard_lawful t _).trans (frameKind_lawful t _ _)).trans (takeRequests_lawful t _)
    · exact port_lawful t _ _ fun _ => rfl

theorem selectRises_lawful (t : Tenant) (s : State) : Lawful s (selectRises t s) := by
  rw [selectRises]
  split
  · exact .refl s
  · refine (port_lawful t (fun p => { p with tselHigh := true }) s fun _ => rfl).trans ?_
    split
    · exact .refl _
    · exact port_lawful t _ _ fun _ => rfl
    · exact endTransfer_lawful t _ _ _

/-! ### The site port -/

theorem mgmt_lawful {s : State} {m : Mgmt} (h : MgmtOk s.mgmt → MgmtOk m) : Lawful s { s with mgmt := m } :=
  parts_lawful (Act.mgmt m h).run

theorem respond_lawful {s : State} {a : State × Response} (h : Lawful s a.1) : Lawful s (respond a) :=
  h.trans (mgmt_lawful fun ⟨ha, _⟩ => ⟨ha, Nat.zero_le _⟩)

theorem readRailRule_lawful (rail : Nat) (s : State) : Lawful s (readRailRule rail s).1 := by
  have acts := readRailRule_acts rail s
  refine parts_lawful acts ?_ ?_ ?_ <;> rw [readRailRule] <;> split <;> rfl

theorem siteRule_lawful (i : Instr) (s : State) : Lawful s (siteRule i s).1 := by
  rw [siteRule.eq_def]
  split
  · exact setCarrierRule_lawful _ _ _ _ _ _ _ _ _ s
  · exact clearCarrierRule_lawful _ s
  · exact enableRule_lawful _ s
  · exact disableRule_lawful _ s
  · exact pinRule_lawful _ s
  · exact unpinRule_lawful _ s
  · exact setSlicesRule_lawful _ _ _ s
  · exact setRailRule_lawful _ _ _ _ _ s
  · exact setBiasRule_lawful _ _ s
  · exact clearFaultCarrierRule_lawful _ s
  · exact clearFaultRailRule_lawful _ s
  · exact setWindowRule_lawful _ _ _ _ s
  · exact setTimeRule_lawful _ s
  · exact parts_lawful (setDividerRule_acts _ s)
  · exact setInputsRule_lawful _ _ _ s
  · exact setBankParamRule_lawful _ _ _ s
  · exact selectBankRule_lawful _ s
  · exact writeStandDown_lawful true s
  · exact writeStandDown_lawful false s
  · exact setPortRule_lawful _ _ _ _ s
  · exact ackAlertRule_lawful _ _ s
  · exact clearTallyRule_lawful _ s
  · rw [(readRule_state s).1]; exact .refl s
  · exact readRailRule_lawful _ s
  · rw [(readRule_state s).2]; exact .refl s
  all_goals exact .refl s

theorem processRecord_lawful (bytes : List Byte) (s : State) : Lawful s (processRecord bytes s) := by
  rw [processRecord]
  split
  · exact .refl s
  · exact respond_lawful (siteRule_lawful _ s)

theorem endWrite_lawful (s : State) : Lawful s (endWrite s) := by
  rw [endWrite]
  split
  · exact processRecord_lawful _ s
  all_goals exact .refl s

theorem startCondition_lawful (address : Nat) (read : Bool) (s : State) : Lawful s (startCondition address read s) :=
  (endWrite_lawful s).trans (mgmt_lawful (addressed_ok address read))

theorem stopCondition_lawful (s : State) : Lawful s (stopCondition s) :=
  (endWrite_lawful s).trans (mgmt_lawful fun ⟨ha, _⟩ => ⟨ha, Nat.zero_le _⟩)

/-- After a reset every rail is off and no carrier draws. -/
theorem resetState_agrees (addr : Nat) (s : State) : Agrees none none (resetState addr s) := by
  intro r
  obtain ⟨level, e⟩ := resetState_rail addr s r
  have off : ((resetState addr s).rail r).state = .off := by rw [e]; rfl
  refine ⟨fun hr => ?_, fun _ n p draw => ?_, fun _ hs => ?_, fun hs => ?_⟩
  · cases hr
  · rw [resetState_carrier, draw_of_not_needs rfl] at draw
    cases draw
  · rw [off] at hs; simp at hs
  · rw [off] at hs; simp at hs

theorem powerOnReset_lawful (addr : Nat) (s : State) : Lawful s (powerOnReset addr s) := by
  have reset : Lawful s (resetState addr s) := fun _ => ⟨resetState_carriersOk addr s, resetState_agrees addr s⟩
  rw [powerOnReset_eq]
  exact (reset.trans (recheckLine_lawful _ _)).trans (recheckLine_lawful _ _)

/-! ### Every command -/

/-- A site request's command answers with its rule. -/
theorem siteRequest_lawful (i : Instr) {s t : State}
    (h : (.next (respond (siteRule i s)) : Host.Outcome State Fault Refusal) = .next t) : Lawful s t := by
  cases h; exact respond_lawful (siteRule_lawful i s)

/-- A tenant request's command is taken or changes nothing. -/
theorem tenantRequest_lawful (t : Tenant) (i : Instr) {s u : State}
    (h : (.next (whenTaken t (handleRequest i) s) : Host.Outcome State Fault Refusal) = .next u) : Lawful s u := by
  cases h; exact whenTaken_lawful t i s

/-- Settle timers run on rails in RAMPING only (R116). -/
def SettlesRamping (s : State) : Prop :=
  ∀ r, (s.rail r).settleTimer.isSome = true → (s.rail r).state = .ramping

theorem settlesRamping_of_rampOk {s : State} (h : RampOk s) : SettlesRamping s := by
  obtain ⟨-, -, ramp⟩ := h
  intro r running
  obtain ⟨-, -, settles, -⟩ := ramp r
  exact settles.1 running

theorem SettlesRamping.of_rails {s t : State} (h : SettlesRamping s) (rails : t.rails = s.rails) :
    SettlesRamping t := by
  intro r
  rw [State.rail, rails]
  exact h r

theorem SettlesRamping.of_due {s : State} {r : RailId} (h : SettlesRamping s) (due : settleDue s r = true) :
    (s.rail r).state = .ramping := by
  refine h r ?_
  rw [settleDue] at due
  split at due
  · cases due
  · rename_i running
    rw [running]; rfl

theorem exec_lawful {i : Instr} {s t : State} (h : exec i s = .next t) (hr : SettlesRamping s) : Lawful s t := by
  cases i with
  | powerOnReset addr => cases h; exact powerOnReset_lawful addr s
  | malformedSiteRecord bytes => cases h; exact processRecord_lawful bytes s
  | busTimeout => cases h; exact ite_lawful _ fun _ => mgmt_lawful abandon_ok
  | transferStart t => cases h; exact selectFalls_lawful t s
  | stallTimeout t => cases h; exact ite_lawful _ fun _ => stallExpires_lawful t s
  | frameEnd t => cases h; exact selectRises_lawful t s
  | load t num util users unused => exact tenantRequest_lawful t (.load t num util users unused) h
  | accept t num token unused => exact tenantRequest_lawful t (.accept t num token unused) h
  | decline t num token unused => exact tenantRequest_lawful t (.decline t num token unused) h
  | drained t num token unused => exact tenantRequest_lawful t (.drained t num token unused) h
  | wake t num unused => exact tenantRequest_lawful t (.wake t num unused) h
  | keep t num unused => exact tenantRequest_lawful t (.keep t num unused) h
  | unkeep t num unused => exact tenantRequest_lawful t (.unkeep t num unused) h
  | fault t num unused => exact tenantRequest_lawful t (.fault t num unused) h
  | clear t num unused => exact tenantRequest_lawful t (.clear t num unused) h
  | query t num unused => exact tenantRequest_lawful t (.query t num unused) h
  | unknownTenantRequest t kind num => exact tenantRequest_lawful t (.unknownTenantRequest t kind num) h
  | linkWindowExpiry t => cases h; exact ite_lawful _ fun _ => linkWindowExpires_lawful t s
  | staleTimerExpiry n => cases h; exact ite_lawful _ fun _ => staleExpires_lawful n s
  | answerTimerExpiry n => cases h; exact ite_lawful _ fun _ => answerExpires_lawful n s
  | drainTimerExpiry n => cases h; exact ite_lawful _ fun _ => drainExpires_lawful n s
  | dwellElapses n => cases h; exact ite_lawful _ fun _ => (dwellEnds_lawful n s).trans (reeval_lawful n _)
  | minAwakePasses n => cases h; exact ite_lawful _ fun _ => (minAwakeEnds_lawful n s).trans (reeval_lawful n _)
  | surgeHoldoffEnds n => cases h; exact ite_lawful _ fun _ => holdoff_lawful n none s
  | graceExpiry r => cases h; exact ite_lawful _ fun _ => graceExpires_lawful r s
  | settleExpiry r level => cases h; exact ite_lawful _ fun due hs => hs.settleExpires (hr.of_due due) level
  | retryWaitExpiry r => cases h; exact ite_lawful _ fun _ hs => hs.retryExpires r
  | secondsEvent => cases h; exact secondPasses_lawful s
  | inputLevelChange line level => cases h; exact (inputs_lawful _ s).trans (recheckLine_lawful line _)
  | debounceExpiry line => cases h; exact ite_lawful _ fun _ => debounceExpires_lawful line s
  | powerGoodFall r => cases h; exact fun hs => hs.powerFalls r
  | tclkRisingEdge t tdin => cases h; exact clockRises_lawful t tdin s
  | i2cStartCondition address read => cases h; exact startCondition_lawful address read s
  | i2cStopCondition => cases h; exact stopCondition_lawful s
  | i2cDataByte byte ack => cases h; exact mgmt_lawful (dataByte_ok byte ack)
  | sclEdge rising => cases h; exact mgmt_lawful (sclEdge_ok rising s.now)
  | setCarrier n owner role rail count a0 a1 a2 trim =>
    exact siteRequest_lawful (.setCarrier n owner role rail count a0 a1 a2 trim) h
  | clearCarrier n => exact siteRequest_lawful (.clearCarrier n) h
  | enable n => exact siteRequest_lawful (.enable n) h
  | disable n => exact siteRequest_lawful (.disable n) h
  | pin n => exact siteRequest_lawful (.pin n) h
  | unpin n => exact siteRequest_lawful (.unpin n) h
  | setSlices t p q => exact siteRequest_lawful (.setSlices t p q) h
  | setRail r i b f d => exact siteRequest_lawful (.setRail r i b f d) h
  | setBias r c => exact siteRequest_lawful (.setBias r c) h
  | clearFaultCarrier n => exact siteRequest_lawful (.clearFaultCarrier n) h
  | clearFaultRail r => exact siteRequest_lawful (.clearFaultRail r) h
  | setWindow w e x y => exact siteRequest_lawful (.setWindow w e x y) h
  | setTime tod => exact siteRequest_lawful (.setTime tod) h
  | setDivider d => exact siteRequest_lawful (.setDivider d) h
  | setInputs p q d => exact siteRequest_lawful (.setInputs p q d) h
  | setBankParam b p v => exact siteRequest_lawful (.setBankParam b p v) h
  | selectBank m => exact siteRequest_lawful (.selectBank m) h
  | standDown => exact siteRequest_lawful .standDown h
  | resume => exact siteRequest_lawful .resume h
  | setPort t e w d => exact siteRequest_lawful (.setPort t e w d) h
  | ackAlert c slots => exact siteRequest_lawful (.ackAlert c slots) h
  | clearTally r => exact siteRequest_lawful (.clearTally r) h
  | readCarrier n => exact siteRequest_lawful (.readCarrier n) h
  | readRail r => exact siteRequest_lawful (.readRail r) h
  | readTenant t => exact siteRequest_lawful (.readTenant t) h
  | readSite => exact siteRequest_lawful .readSite h
  | readTally => exact siteRequest_lawful .readTally h

theorem countRead_parts (i : Instr) (s : State) : (countRead i s).carriers = s.carriers ∧
    (countRead i s).rails = s.rails ∧ (countRead i s).ramp = s.ramp := by
  rw [countRead.eq_def]
  split <;> exact ⟨rfl, rfl, rfl⟩

theorem step_lawful {s t : State} (h : step s = .next t) (hr : SettlesRamping s) : Lawful s t := by
  rw [step] at h
  split at h
  · rename_i rest _
    have taken : Lawful s { s with pending := rest } := parts_lawful (Act.pending _).run
    exact taken.trans (exec_lawful h (hr.of_rails rfl))
  · split at h
    · rename_i i _
      obtain ⟨carriers, rails, ramp⟩ := countRead_parts i s
      have counted : Lawful s (countRead i s) := parts_lawful (countRead_acts i s) carriers rails ramp
      exact counted.trans (exec_lawful h (hr.of_rails rails))
    · rename_i hidle
      cases h
      exact parts_lawful (idleTick_acts s (subTicks_of_idleCommand_none hidle))

/-- Settles O59: the law of power is looked at rail by rail, every change inside a step keeps it but on a rail in
question, and every step ends with no rail in question. -/
theorem stepKeepsPower : Obligations.StepKeepsPower := fun _ _ hc hr hp hstep =>
  powerOk_of_agrees (step_lawful hstep (settlesRamping_of_rampOk hr) ⟨hc, agrees_of_laws hr hp⟩).agrees

end Sys2Proof.Machine
end

/-! # WAKE, CLEAR and CLEAR_FAULT of a carrier -/

section

namespace Sys2Proof.Machine

section

variable {t : Tenant} {num n : Nat} {i : Site} {s : State}

theorem exec_wake_eq_handle (htake : (s.port t).canTake = true) :
    exec (.wake t num 0) s = .next (handle t 0x05 num 0 false wakeRule s) :=
  congrArg Host.Outcome.next (whenTaken_of_canTake htake)

theorem exec_clear_eq_handle (htake : (s.port t).canTake = true) :
    exec (.clear t num 0) s = .next (handle t 0x09 num 0 false clearRule s) :=
  congrArg Host.Outcome.next (whenTaken_of_canTake htake)

/-! ### The rules, by power state -/

theorem wakeRule_of_awake (h : (s.carrier i).power = .active ∨ (s.carrier i).power = .waking) :
    wakeRule i s = .taken s := by
  rw [wakeRule]
  rcases h with h | h <;> rw [h]

theorem wakeRule_of_out (h : (s.carrier i).power = .offline ∨ (s.carrier i).power = .faulted) :
    wakeRule i s = .refused .wrongState s := by
  rw [wakeRule]
  rcases h with h | h <;> rw [h]

theorem wakeRule_of_exchange (h : (s.carrier i).power = .offered ∨ (s.carrier i).power = .draining) :
    wakeRule i s = .taken (withdraw i .busy s) := by
  rw [wakeRule]
  rcases h with h | h <;> rw [h]

theorem wakeRule_of_asleep (h : (s.carrier i).power = .asleep) :
    wakeRule i s = .taken (wakeCarrier i .ordinary s) := by
  rw [wakeRule, h]

theorem clearRule_of_clearable (h : clearable s i = true) : clearRule i s = .taken (enterWaking i .ordinary s) :=
  if_pos h

theorem clearRule_of_not (h : ¬ clearable s i = true) : clearRule i s = .refused .wrongState s := if_neg h

theorem enterWaking_cascade (i : Site) (cls : RampClass) (s : State) : Cascade s (enterWaking i cls s) :=
  (cascade_modCarrier s i _ fun _ => by rfl).trans (enterWaking_moves i cls s).cascade

/-! ### CLEAR_FAULT -/

theorem clearFaultCarrierRule_of_none (h : provisionedSite s n = none) :
    clearFaultCarrierRule n s = refuse .noSuch s := by
  change (siteOf n).filter (fun i => (s.carrier i).provisioned) = none at h
  rw [clearFaultCarrierRule, h]

theorem clearFaultCarrierRule_of_some (h : provisionedSite s n = some i) : clearFaultCarrierRule n s =
    if clearable s i then answerOk (enterWaking i .ordinary s) else refuse .wrongState s := by
  change (siteOf n).filter (fun i => (s.carrier i).provisioned) = some i at h
  rw [clearFaultCarrierRule, h]

theorem exec_clearFaultCarrier (n : Nat) (s : State) :
    exec (.clearFaultCarrier n) s = .next (respond (clearFaultCarrierRule n s)) := rfl

end

/-! ### The obligation -/

/-- Settles O37: each rule by power state, and the entries to WAKING keep the number of the REPLY. -/
theorem wakeAndClearRequests : Obligations.WakeAndClearRequests := by
  refine ⟨fun t num i s htake h => ?_, fun n s => ?_⟩
  · rw [exec_wake_eq_handle htake, exec_clear_eq_handle htake]
    refine ⟨fun awake => ?_, fun out => ?_, fun exchange => ?_, fun asleep => ?_, fun refused => ?_,
      fun faulted cause => ?_⟩
    · rw [handle_taken h (wakeRule_of_awake awake) (.refl s)]
    · rw [handle_refused h (wakeRule_of_out out)]
    · rw [handle_taken h (wakeRule_of_exchange exchange) (withdraw_eases i .busy s).moves.cascade]
    · rw [handle_taken h (wakeRule_of_asleep asleep) (wakeCarrier_moves i .ordinary s).cascade,
        wakeCarrier_of_asleep asleep]
    · rw [handle_refused h (clearRule_of_not fun hc => ?_)]
      obtain ⟨faulted, cause⟩ := (clearable_iff s i).1 hc
      exact refused.elim (· faulted) (· cause)
    · rw [handle_taken h (clearRule_of_clearable ((clearable_iff s i).2 ⟨faulted, cause⟩))
        (enterWaking_cascade i .ordinary s)]
  · rw [exec_clearFaultCarrier]
    refine ⟨fun large => ?_, fun i number => ?_⟩
    · rw [clearFaultCarrierRule_of_none (provisionedSite_of_le s large)]
    · subst number
      split
      · rename_i unprovisioned
        rw [clearFaultCarrierRule_of_none (provisionedSite_of_not unprovisioned)]
      · rename_i provisioned
        rw [clearFaultCarrierRule_of_some (provisionedSite_of provisioned)]
        simp only [clearable_iff]
        split <;> rfl

end Sys2Proof.Machine
end

/-! # The surge wake -/

section

namespace Sys2Proof.Machine

/-! ### What the scheduler's part of a report leaves -/

section

variable {i n : Site} {s t : State}

theorem SchedulerMove.rails (m : SchedulerMove s t) : t.rails = s.rails ∧ t.stack = s.stack := by
  cases m <;> exact ⟨rfl, rfl⟩

theorem SchedulerMoves.rails (h : SchedulerMoves s t) : t.rails = s.rails ∧ t.stack = s.stack :=
  run_keeps (P := fun u => u.rails = s.rails ∧ u.stack = s.stack)
    (fun _ _ m ⟨rails, stack⟩ => ⟨m.rails.1.trans rails, m.rails.2.trans stack⟩) h ⟨rfl, rfl⟩

theorem SchedulerMoves.holdoff (h : SchedulerMoves s t) (i : Site) : (t.carrier i).holdoff = (s.carrier i).holdoff := by
  refine run_keeps (P := fun u => (u.carrier i).holdoff = (s.carrier i).holdoff) (fun u v m hu => ?_) h rfl
  rcases m.record i with ⟨r, -, e⟩ | ⟨-, e⟩ <;> rw [e] <;> exact hu

/-- The scheduler's moves take only queued carriers from their power states, and only to OFFERED. -/
theorem SchedulerMoves.power_iff {p : Power} (h : SchedulerMoves s t) (active : p ≠ .active) (offered : p ≠ .offered)
    (hq : (s.carrier n).power = p → Unqueued s n) : (t.carrier n).power = p ↔ (s.carrier n).power = p := by
  refine And.left (run_keeps (P := fun u => ((u.carrier n).power = p ↔ (s.carrier n).power = p) ∧
    ((u.carrier n).power = p → Unqueued u n)) (fun u v m ⟨same, hq⟩ => ?_) h ⟨.rfl, hq⟩)
  rcases m.record n with ⟨r, -, e⟩ | ⟨⟨w, hw⟩, e⟩
  · rw [e]
    refine ⟨same, fun hp => (ReportMove.schedules m).keeps_unqueued (hq hp) (not_ripe_of_power ?_)⟩
    rwa [show (u.carrier n).power = p from hp]
  · rw [e]
    refine ⟨⟨fun hp => absurd hp.symm offered, fun hp => ?_⟩, fun hp => absurd hp.symm offered⟩
    exact absurd hw (hq (same.2 hp) w)

end

section Report

variable {i : Site} {util users : Nat} {s : State}

theorem scheduled_cascade : Cascade s (scheduled i util users s) :=
  reported_cascade.trans scheduled_schedulerMoves.reportMoves.cascade

theorem reported_power (n : Site) : ((reported i util users s).carrier n).power = (s.carrier n).power := by
  rw [reported, carrier_modCarrier]
  split
  · rename_i hn; subst hn; rfl
  · rfl

theorem scheduled_power_iff {p : Power} (hq : QueuesOk s) (active : p ≠ .active) (offered : p ≠ .offered) (n : Site) :
    ((scheduled i util users s).carrier n).power = p ↔ (s.carrier n).power = p := by
  have written : ((reported i util users s).carrier n).power = (s.carrier n).power := reported_power n
  have kept := (scheduled_schedulerMoves (n := i) (util := util) (users := users) (s := s)).power_iff (n := n) active
    offered fun hp u hn => hq.not_mem_of_power (by rw [← written, hp]; exact active) u hn
  rw [kept, written]

theorem scheduled_drainingDependents (hq : QueuesOk s) (x : Site) :
    drainingDependents (scheduled i util users s) x = drainingDependents s x := by
  refine List.countP_congr fun n _ => ?_
  rw [scheduled_cascade.dependent, Bool.and_eq_true, Bool.and_eq_true, beq_iff_eq, beq_iff_eq,
    scheduled_power_iff (p := .draining) hq nofun nofun]

theorem scheduled_holdoff : ((scheduled i util users s).carrier i).holdoff = (s.carrier i).holdoff := by
  rw [scheduled_schedulerMoves.holdoff, carrier_reported_same]
  rfl

theorem scheduled_rails : (scheduled i util users s).rails = s.rails ∧ (scheduled i util users s).stack = s.stack :=
  scheduled_schedulerMoves.rails

/-- A report of an ACTIVE COVERAGE carrier that meets the surge test is the scheduler's part and the surge. -/
theorem report_of_surge (hp : (s.carrier i).power = .active) (hr : (s.carrier i).role = .coverage)
    (hl : 16 * (bank s).surgeThreshold ≤ newLoad (bank s) (s.carrier i) (effectiveLoad (bank s) util users)) :
    report i util users s = surge i (scheduled i util users s) := by
  have kept : ¬ (reportClass i util users s == .busy && (s.carrier i).power.inExchange) = true := by
    rw [hp]
    simp [Power.inExchange]
  have surges : surges (bank s) (s.carrier i) (reportLoad i util users s) = true := (surges_iff _ _ _).2 ⟨hr, hl⟩
  rw [report_eq]
  dsimp only
  rw [if_neg kept, if_pos surges]

end Report

/-! ### What the wake selector does -/

section

variable {i n : Site} {s : State}

theorem surge_of_suspended (h : 0 < drainingDependents s i) : surge i s = s := by
  rw [surge, if_pos h.ne']

theorem surge_of_heldOff (h : (s.carrier i).holdoff ≠ none) : surge i s = s := by
  rw [surge]
  split
  · rfl
  · rw [if_pos (Option.isSome_iff_ne_none.2 h)]

theorem surge_of_unlisted (h : ∀ n ∈ s.stack, i ∉ (s.carrier n).anchors) : surge i s = s := by
  have nobody : s.stack.find? (fun n => (s.carrier n).anchors.contains i) = none :=
    List.find?_eq_none.2 fun n hn hc => h n hn (List.contains_iff_mem.1 hc)
  rw [surge]
  split
  · rfl
  · split
    · rfl
    · rw [nobody]

/-- The topmost lister is woken in the ordinary class, and the holdoff starts. -/
theorem surge_of_listed {above below : List Site} (hd : drainingDependents s i = 0)
    (hh : (s.carrier i).holdoff = none) (hs : s.stack = above ++ n :: below) (hn : i ∈ (s.carrier n).anchors)
    (ha : ∀ m ∈ above, i ∉ (s.carrier m).anchors) :
    surge i s = (wakeCarrier n .ordinary s).modCarrier i fun c => { c with holdoff := some s.now } := by
  have found : s.stack.find? (fun m => (s.carrier m).anchors.contains i) = some n := by
    refine List.find?_eq_some_iff_append.2 ⟨List.contains_iff_mem.2 hn, above, below, hs, fun m hm => ?_⟩
    rw [Bool.not_eq_true', ← Bool.not_eq_true, List.contains_iff_mem]
    exact ha m hm
  rw [surge, if_neg (by simp [hd]), if_neg (by simp [hh]), found]

theorem stack_raiseRail (r : RailId) (cls : RampClass) (s : State) : (raiseRail r cls s).stack = s.stack := by
  cases cls with
  | ordinary => rfl
  | urgent =>
    rw [raiseRail]
    split
    · rw [stack_joinRamp]; rfl
    · rfl

/-- An entry to WAKING leaves the stack alone, and its carrier does not sleep afterwards. -/
theorem enterWaking_leaves (n : Site) (cls : RampClass) (s : State) :
    (enterWaking n cls s).stack = s.stack ∧ Avoids .asleep n (enterWaking n cls s) := by
  have waking : ((s.modCarrier n Carrier.rising).carrier n).power = .waking := by rw [carrier_modCarrier_same]; rfl
  have awake {u : State} (h : u.carriers = (s.modCarrier n Carrier.rising).carriers) : Avoids .asleep n u := by
    have same : u.carrier n = (s.modCarrier n Carrier.rising).carrier n := by rw [State.carrier, h]; rfl
    rw [Avoids, same, waking]
    exact nofun
  have powered (u : State) (hu : (u.carrier n).power = .waking) :
      (powered n u).stack = u.stack ∧ Avoids .asleep n (powered n u) :=
    ⟨(powered_eases n u hu).rails.2.2, powered_avoids (p := .asleep) nofun nofun n u⟩
  cases hs : (s.rail (s.carrier n).rail).state with
  | on => rw [enterWaking_of_on hs]; exact powered _ waking
  | hold => rw [enterWaking_of_hold hs]; exact powered _ waking
  | off =>
    rw [enterWaking_of_off hs]
    exact ⟨by rw [queueRail, stack_grant, stack_joinRamp]; rfl, awake (queueRail_apart _ _ _).carriers⟩
  | queued =>
    rw [enterWaking_of_queued hs]
    exact ⟨stack_raiseRail _ _ _, awake (raiseRail_apart _ _ _).carriers⟩
  | ramping => rw [enterWaking_of_waiting (.inl hs)]; exact ⟨rfl, awake rfl⟩
  | retryWait => rw [enterWaking_of_waiting (.inr hs)]; exact ⟨rfl, awake rfl⟩
  | fault =>
    rw [enterWaking_of_fault hs]
    refine ⟨rfl, ?_⟩
    rw [Avoids, post, carrier_modPort, carrier_modCarrier_same]
    exact nofun

/-- A sleeper that is woken leaves the stack, and the others keep their places. -/
theorem wakeCarrier_leaves {above below : List Site} (cls : RampClass) (hp : (s.carrier n).power = .asleep)
    (nodup : s.stack.Nodup) (hs : s.stack = above ++ n :: below) :
    (wakeCarrier n cls s).stack = above ++ below ∧ Avoids .asleep n (wakeCarrier n cls s) := by
  have others : s.stack.filter (· != n) = above ++ below := by
    have hn : n ∉ above := fun hn => (List.nodup_append.1 (hs ▸ nodup)).2.2 n hn n List.mem_cons_self rfl
    rw [← nodup.erase_eq_filter, hs, List.erase_append_right _ hn, List.erase_cons_head]
  obtain ⟨stack, awake⟩ := enterWaking_leaves n cls { s with stack := s.stack.filter (· != n) }
  rw [wakeCarrier_of_asleep hp]
  exact ⟨stack.trans others, awake⟩

end

/-! ### The obligation -/

/-- Settles O33: the scheduler's part of the report leaves what the wake selector looks at, and the selector wakes the
first lister on the stack. -/
theorem surgeWakesOneSleeper : Obligations.SurgeWakesOneSleeper := by
  intro t num util users i s htake h hp hr hq hstack c hl
  let v := scheduled i util users s
  have cascade : Cascade s v := scheduled_cascade
  have draining : drainingDependents v i = drainingDependents s i := scheduled_drainingDependents hq i
  have holdoff : (v.carrier i).holdoff = c.holdoff := scheduled_holdoff
  obtain ⟨rails, stack⟩ : v.rails = s.rails ∧ v.stack = s.stack := scheduled_rails
  refine ⟨surge i v, ?_, fun quiet => ?_, fun unsuspended free above below n stands lists above_unlisted => ?_⟩
  · rw [exec_load_of_reports htake h (.inl hp), report_of_surge hp hr hl]
  · have idle : surge i v = v := by
      rcases quiet with suspended | held | unlisted
      · exact surge_of_suspended (by rwa [draining])
      · exact surge_of_heldOff (by rwa [holdoff])
      · refine surge_of_unlisted fun n hn => ?_
        rw [anchorsOf_cascade cascade]
        exact unlisted n (stack ▸ hn)
    rw [idle]
    exact ⟨stack, holdoff, rails⟩
  · obtain ⟨nodup, sleepers⟩ := hstack
    have asleep : (v.carrier n).power = .asleep := by
      refine (scheduled_power_iff (p := .asleep) hq nofun nofun n).2 ((sleepers n).1 ?_)
      rw [stands]
      exact List.mem_append_right _ List.mem_cons_self
    obtain ⟨left, awake⟩ := wakeCarrier_leaves .ordinary asleep (stack.symm ▸ nodup) (stack.trans stands)
    rw [surge_of_listed (draining.trans unsuspended) (holdoff.trans free) (stack.trans stands)
      (by rwa [anchorsOf_cascade cascade]) fun m hm => by rw [anchorsOf_cascade cascade]; exact above_unlisted m hm]
    refine ⟨left, awake.modCarrier (.inr rfl), ?_⟩
    rw [carrier_modCarrier_same]
    exact congrArg (fun c : Clock => some c.now) cascade.clock

end Sys2Proof.Machine
end

/-! # The ramp queue, the slot and the rails' states

The law of the ramp is split in two: what holds of the queue, the slot and the rails at every moment (`Ramps`), and that
no rail waits for a free slot (`Orderly`), which a grant restores. While a rail is taken out of RAMPING the slot is still
its own; `spent` names that rail. -/

section

namespace Sys2Proof.Machine

/-! ### The law -/

/-- The timers and the held mark of a rail belong to its state (R105). -/
structure Rail.Timed (x : Rail) : Prop where
  settle : x.settleTimer.isSome = true ↔ x.state = .ramping
  retry : x.retryTimer.isSome = true ↔ x.state = .retryWait
  grace : x.graceTimer.isSome = true → x.state = .hold
  held : x.held = true → x.state = .hold

/-- Rail r, in the condition x, agrees with a ramp queue and its slot; a spent rail holds the slot but ramps no more. -/
structure Tracked (spent : Option RailId) (q : Ramp) (r : RailId) (x : Rail) : Prop where
  queued : r ∈ q.queue ↔ x.state = .queued
  holder : q.slot = some r ↔ x.state = .ramping ∨ spent = some r
  idle : spent = some r → x.state ≠ .ramping
  timed : x.Timed

/-- The queue holds the rails in QUEUED, each once, and the slot is held by the rail in RAMPING or the spent one. -/
structure Ramps (spent : Option RailId) (s : State) : Prop where
  nodup : s.ramp.queue.Nodup
  placed : ∀ r, Tracked spent s.ramp r (s.rail r)

/-- The same, and no rail waits for a free slot. -/
structure Orderly (spent : Option RailId) (s : State) : Prop extends Ramps spent s where
  free : s.ramp.slot = none → s.ramp.queue = []

theorem rampOk_iff {s : State} : RampOk s ↔ Orderly none s := by
  constructor
  · rintro ⟨nodup, free, rails⟩
    refine ⟨⟨nodup, fun r => ?_⟩, free⟩
    obtain ⟨queued, holder, settle, retry, grace, held⟩ := rails r
    exact ⟨queued, by simpa using holder, nofun, settle, retry, grace, held⟩
  · rintro ⟨⟨nodup, placed⟩, free⟩
    refine ⟨nodup, free, fun r => ?_⟩
    obtain ⟨queued, holder, -, settle, retry, grace, held⟩ := placed r
    exact ⟨queued, by simpa using holder, settle, retry, grace, held⟩

section

variable {spent : Option RailId} {r : RailId} {s t : State} {f : Rail → Rail}

theorem Ramps.of_parts (h : Ramps spent s) (rails : t.rails = s.rails) (ramp : t.ramp = s.ramp) : Ramps spent t := by
  refine ⟨by rw [ramp]; exact h.nodup, fun r => ?_⟩
  rw [State.rail, rails, ramp]
  exact h.placed r

theorem Orderly.of_parts (h : Orderly spent s) (rails : t.rails = s.rails) (ramp : t.ramp = s.ramp) :
    Orderly spent t := ⟨h.toRamps.of_parts rails ramp, by rw [ramp]; exact h.free⟩

theorem Ramps.timed (h : Ramps spent s) (r : RailId) : (s.rail r).Timed := (h.placed r).timed

theorem Ramps.not_mem_queue (h : Ramps spent s) (hs : (s.rail r).state ≠ .queued) : r ∉ s.ramp.queue :=
  fun hr => hs ((h.placed r).queued.1 hr)

/-! ### A rail is written -/

/-- What holds of one rail as it is written, and of every other as it stands, holds of every rail. -/
theorem forall_rail_modRail {P : RailId → Rail → Prop} (own : P r (f (s.rail r)))
    (others : ∀ q, q ≠ r → P q (s.rail q)) (q : RailId) : P q ((s.modRail r f).rail q) := by
  rw [rail_modRail]
  split
  · rename_i hq; subst hq; exact own
  · rename_i hq; exact others q hq

/-- A rail changes between states other than QUEUED and RAMPING, or stays in its state. -/
theorem Ramps.modRail (h : Ramps spent s) (timed : (f (s.rail r)).Timed)
    (queued : (f (s.rail r)).state = .queued ↔ (s.rail r).state = .queued)
    (ramping : (f (s.rail r)).state = .ramping ↔ (s.rail r).state = .ramping) : Ramps spent (s.modRail r f) := by
  refine ⟨h.nodup, forall_rail_modRail ?_ fun q _ => h.placed q⟩
  obtain ⟨inQueue, holder, idle, -⟩ := h.placed r
  exact ⟨inQueue.trans queued.symm, by rw [ramping]; exact holder, by rw [Ne, ramping]; exact idle, timed⟩

theorem Orderly.modRail (h : Orderly spent s) (timed : (f (s.rail r)).Timed)
    (queued : (f (s.rail r)).state = .queued ↔ (s.rail r).state = .queued)
    (ramping : (f (s.rail r)).state = .ramping ↔ (s.rail r).state = .ramping) : Orderly spent (s.modRail r f) :=
  ⟨h.toRamps.modRail timed queued ramping, h.free⟩

/-- States in which a rail neither waits for the slot nor holds it. -/
def RailState.aloof : RailState → Bool
  | .off => true
  | .retryWait => true
  | .on => true
  | .hold => true
  | .fault => true
  | .queued => false
  | .ramping => false

theorem RailState.aloof_iff (x : RailState) : x.aloof = true ↔ x ≠ .queued ∧ x ≠ .ramping := by
  cases x <;> simp [RailState.aloof]

/-- A rail changes between two states that have nothing to do with the slot. -/
theorem Orderly.modRail_aloof (h : Orderly spent s) (before : (s.rail r).state.aloof = true)
    (after : (f (s.rail r)).state.aloof = true) (timed : (f (s.rail r)).Timed) : Orderly spent (s.modRail r f) := by
  obtain ⟨queued, ramping⟩ := (RailState.aloof_iff _).1 before
  obtain ⟨queued', ramping'⟩ := (RailState.aloof_iff _).1 after
  exact h.modRail timed (by simp [queued, queued']) (by simp [ramping, ramping'])

/-- What the law of the ramp looks at in a rail. -/
def Rail.phase (x : Rail) : RailState × Option (Time × Nat) × Option Time × Option Time × Bool :=
  (x.state, x.settleTimer, x.retryTimer, x.graceTimer, x.held)

theorem Rail.Timed.congr {x y : Rail} (h : x.Timed) (same : y.phase = x.phase) : y.Timed := by
  simp only [Rail.phase, Prod.mk.injEq] at same
  obtain ⟨state, settle, retry, grace, held⟩ := same
  exact ⟨by rw [settle, state]; exact h.settle, by rw [retry, state]; exact h.retry,
    by rw [grace, state]; exact h.grace, by rw [held, state]; exact h.held⟩

theorem Orderly.modRail_phase (h : Orderly spent s) (same : (f (s.rail r)).phase = (s.rail r).phase) :
    Orderly spent (s.modRail r f) := by
  have state : (f (s.rail r)).state = (s.rail r).state := congrArg Prod.fst same
  exact h.modRail ((h.timed r).congr same) (by rw [state]) (by rw [state])

/-- The rail in RAMPING leaves that state, the slot being still its own. -/
theorem Orderly.spends (h : Orderly none s) (hs : (s.rail r).state = .ramping)
    (after : (f (s.rail r)).state.aloof = true) (timed : (f (s.rail r)).Timed) :
    Orderly (some r) (s.modRail r f) := by
  obtain ⟨queued, ramping⟩ := (RailState.aloof_iff _).1 after
  refine ⟨⟨h.nodup, forall_rail_modRail ?_ fun q hq => ?_⟩, h.free⟩
  · obtain ⟨inQueue, holder, -, -⟩ := h.placed r
    rw [hs] at inQueue holder
    exact ⟨by simpa [queued] using inQueue, by simpa using holder, fun _ => ramping, timed⟩
  · obtain ⟨inQueue, holder, -, timed⟩ := h.placed q
    exact ⟨inQueue, by simpa [Ne.symm hq] using holder, fun e => absurd (Option.some.inj e).symm hq, timed⟩

/-! ### The queue -/

theorem nodup_leaveRamp (h : s.ramp.queue.Nodup) : (leaveRamp r s).ramp.queue.Nodup :=
  h.sublist (List.filter_sublist.append List.filter_sublist)

theorem nodup_joinRamp {cls : RampClass} (h : s.ramp.queue.Nodup) (hr : r ∉ s.ramp.queue) :
    (joinRamp r cls s).ramp.queue.Nodup := by
  have perm : (joinRamp r cls s).ramp.queue.Perm (r :: s.ramp.queue) := by
    cases cls with
    | urgent =>
      change ((s.ramp.urgent ++ [r]) ++ s.ramp.ordinary).Perm (r :: (s.ramp.urgent ++ s.ramp.ordinary))
      rw [List.append_assoc]
      exact List.perm_middle
    | ordinary =>
      change (s.ramp.urgent ++ (s.ramp.ordinary ++ [r])).Perm (r :: (s.ramp.urgent ++ s.ramp.ordinary))
      rw [← List.append_assoc]
      exact List.perm_append_comm
  exact perm.nodup_iff.2 (List.nodup_cons.2 ⟨hr, h⟩)

/-- A rail enters QUEUED and joins the queue. -/
theorem Ramps.joinRamp (h : Ramps spent s) (before : (s.rail r).state.aloof = true)
    (after : (f (s.rail r)).state = .queued) (timed : (f (s.rail r)).Timed) (cls : RampClass) :
    Ramps spent (joinRamp r cls (s.modRail r f)) := by
  obtain ⟨queued, ramping⟩ := (RailState.aloof_iff _).1 before
  refine ⟨nodup_joinRamp h.nodup (h.not_mem_queue queued), fun q => ?_⟩
  rw [rail_joinRamp]
  revert q
  refine forall_rail_modRail ⟨?_, ?_, ?_, timed⟩ fun q hq => ?_
  · simp [mem_queue_joinRamp, after]
  · rw [slot_joinRamp, modRail_ramp, (h.placed r).holder]
    simp [ramping, after]
  · rw [after]; exact fun _ => nofun
  · obtain ⟨inQueue, holder, idle, timed⟩ := h.placed q
    refine ⟨?_, by rw [slot_joinRamp]; exact holder, idle, timed⟩
    rw [mem_queue_joinRamp, modRail_ramp, inQueue]
    simp [hq]

/-- A rail of the ordinary part comes to the tail of the urgent part. -/
theorem Orderly.raises (h : Orderly spent s) (hr : r ∈ s.ramp.ordinary) :
    Orderly spent (Machine.joinRamp r .urgent (leaveRamp r s)) := by
  have waits := mem_queue_of_mem_ordinary hr
  have out : r ∉ (leaveRamp r s).ramp.queue := fun hm => (mem_queue_leaveRamp.1 hm).1 rfl
  refine ⟨⟨nodup_joinRamp (nodup_leaveRamp h.nodup) out, fun q => ?_⟩, fun hn => ?_⟩
  · obtain ⟨inQueue, holder, idle, timed⟩ := h.placed q
    refine ⟨?_, holder, idle, timed⟩
    rw [mem_queue_joinRamp, mem_queue_leaveRamp]
    refine Iff.trans ?_ inQueue
    by_cases hq : q = r
    · subst hq; simp [waits]
    · simp [hq]
  · rw [h.free hn] at waits
    cases waits

/-- A QUEUED rail leaves the queue for a state that has nothing to do with the slot. -/
theorem Orderly.gives (h : Orderly spent s) (before : (s.rail r).state = .queued)
    (after : (f (s.rail r)).state.aloof = true) (timed : (f (s.rail r)).Timed) :
    Orderly spent (leaveRamp r (s.modRail r f)) := by
  obtain ⟨queued, ramping⟩ := (RailState.aloof_iff _).1 after
  have places : ∀ q, Tracked spent (leaveRamp r s).ramp q ((s.modRail r f).rail q) := by
    refine forall_rail_modRail ⟨?_, ?_, fun _ => ramping, timed⟩ fun q hq => ?_
    · simp [mem_queue_leaveRamp, queued]
    · refine (h.placed r).holder.trans (or_congr_left ?_)
      simp [before, ramping]
    · obtain ⟨inQueue, holder, idle, timed⟩ := h.placed q
      refine ⟨?_, holder, idle, timed⟩
      rw [mem_queue_leaveRamp, inQueue]
      simp [hq]
  refine ⟨⟨nodup_leaveRamp h.nodup, places⟩, fun hn => List.eq_nil_iff_forall_not_mem.2 fun q hq => ?_⟩
  have waits := (mem_queue_leaveRamp.1 hq).2
  rw [modRail_ramp, h.free hn] at waits
  cases waits

/-! ### The slot -/

/-- A rail right after it was granted the slot (R116). -/
def Rail.granted (now : Time) (x : Rail) : Rail :=
  let y := { x with bias := x.pendingBias.getD x.bias, pendingBias := none }
  { y with state := .ramping, rampCount := satSucc Config.tallyMax y.rampCount, settleTimer := some (now, y.settle) }

theorem grantTo_eq (r : RailId) (s : State) : grantTo r s =
    { s.modRail r (Rail.granted s.now) with
      ramp := ⟨s.ramp.urgent.filter (· != r), s.ramp.ordinary.filter (· != r), some r⟩ } := rfl

theorem Rail.Timed.granted {x : Rail} (h : x.Timed) (hs : x.state = .queued) (now : Time) : (x.granted now).Timed where
  settle := by simp [Rail.granted]
  retry := by
    have stopped := h.retry
    rw [hs] at stopped
    simpa [Rail.granted] using stopped
  grace running := by
    have hold := h.grace running
    rw [hs] at hold
    cases hold
  held mark := by
    have hold := h.held mark
    rw [hs] at hold
    cases hold

theorem Ramps.not_holder (h : Ramps spent s) (free : s.ramp.slot = none) (r : RailId) :
    (s.rail r).state ≠ .ramping ∧ spent ≠ some r := by
  have holder := (h.placed r).holder
  rw [free] at holder
  simpa [not_or] using holder

/-- A grant gives the free slot to the head of the queue: no rail waits for a free slot any more. -/
theorem Ramps.grant (h : Ramps spent s) : Orderly spent (grant s) := by
  rcases grant_cases s with ⟨r, rest, free, head, e⟩ | ⟨e, empty⟩ <;> rw [e]
  · have state := (h.placed r).queued.1 (head ▸ List.mem_cons_self)
    have places : ∀ q, Tracked spent (grantTo r s).ramp q ((s.modRail r (Rail.granted s.now)).rail q) := by
      refine forall_rail_modRail ⟨?_, ?_, ?_, (h.timed r).granted state _⟩ fun q hq => ?_
      · simp [mem_queue_grantTo, Rail.granted]
      · simp [grantTo_eq, Rail.granted]
      · exact fun e => absurd e (h.not_holder free r).2
      · obtain ⟨inQueue, -, idle, timed⟩ := h.placed q
        refine ⟨?_, ?_, idle, timed⟩
        · rw [mem_queue_grantTo, inQueue]
          simp [hq]
        · simp [grantTo_eq, h.not_holder free q, Ne.symm hq]
    exact ⟨⟨nodup_leaveRamp h.nodup, places⟩, nofun⟩
  · exact ⟨h, empty⟩

/-- The spent rail gives the slot back, and the next one is granted it. -/
theorem Ramps.releaseSlot (h : Ramps (some r) s) : Orderly none (releaseSlot s) := by
  refine Ramps.grant ⟨h.nodup, fun q => ?_⟩
  obtain ⟨inQueue, holder, idle, timed⟩ := h.placed q
  refine ⟨inQueue, ?_, nofun, timed⟩
  have still : (s.rail q).state ≠ .ramping := fun hs =>
    idle (((h.placed r).holder.2 (.inr rfl)).symm.trans (holder.2 (.inl hs))) hs
  change none = some q ↔ (s.rail q).state = .ramping ∨ none = some q
  simp [still]

/-! ### The moves of a cascade -/

/-- A rail without a timer and a mark. -/
structure Rail.Quiet (x : Rail) : Prop where
  settle : x.settleTimer = none
  retry : x.retryTimer = none
  grace : x.graceTimer = none
  held : x.held = false

theorem Rail.Timed.quiet {x : Rail} (h : x.Timed) (hs : x.state = .off ∨ x.state = .queued ∨ x.state = .on ∨
    x.state = .fault) : x.Quiet where
  settle := Option.not_isSome_iff_eq_none.1 fun running => by simp [h.settle.1 running] at hs
  retry := Option.not_isSome_iff_eq_none.1 fun running => by simp [h.retry.1 running] at hs
  grace := Option.not_isSome_iff_eq_none.1 fun running => by simp [h.grace running] at hs
  held := Bool.eq_false_iff.2 fun mark => by simp [h.held mark] at hs

theorem Rail.Quiet.timed {x : Rail} (h : x.Quiet) (ramping : x.state ≠ .ramping) (retryWait : x.state ≠ .retryWait) :
    x.Timed where
  settle := by simp [h.settle, ramping]
  retry := by simp [h.retry, retryWait]
  grace running := by rw [h.grace] at running; cases running
  held mark := by rw [h.held] at mark; cases mark

theorem Rail.Timed.of_hold {x : Rail} (h : x.Timed) (hs : x.state = .hold) :
    x.settleTimer = none ∧ x.retryTimer = none := by
  obtain ⟨settle, retry, -, -⟩ := h
  rw [hs] at settle retry
  exact ⟨by simpa using settle, by simpa using retry⟩

/-- A rail in HOLD loses its grace timer and its mark. -/
theorem Orderly.modRail_hold (h : Orderly spent s) (before : (s.rail r).state = .hold)
    (after : (f (s.rail r)).state.aloof = true) (retryWait : (f (s.rail r)).state ≠ .retryWait)
    (quiet : (s.rail r).settleTimer = none → (s.rail r).retryTimer = none → (f (s.rail r)).Quiet) :
    Orderly spent (s.modRail r f) := by
  obtain ⟨settle, retry⟩ := (h.timed r).of_hold before
  exact h.modRail_aloof (by rw [before]; rfl) after
    ((quiet settle retry).timed ((RailState.aloof_iff _).1 after).2 retryWait)

theorem Move.keeps_orderly (m : Move s t) (h : Orderly spent s) : Orderly spent t := by
  cases m with
  | ease e => exact h.of_parts e.rails.1 e.rails.2.1
  | queues r cls hs =>
    obtain ⟨settle, retry, grace, held⟩ := (h.timed r).quiet (.inl hs)
    have timed : ({ s.rail r with state := .queued } : Rail).Timed :=
      Rail.Quiet.timed ⟨settle, retry, grace, held⟩ nofun nofun
    exact (h.toRamps.joinRamp (by rw [hs]; rfl) rfl timed cls).grant
  | raises r hr => exact h.raises hr
  | returns r hs => exact h.modRail_hold hs rfl nofun fun settle retry => ⟨settle, retry, rfl, rfl⟩
  | holds r hs _ =>
    obtain ⟨settle, retry, -, -⟩ := (h.timed r).quiet (.inr (.inr (.inl hs)))
    exact h.modRail_aloof (by rw [hs]; rfl) rfl ⟨by simp [settle], by simp [retry], fun _ => rfl, nofun⟩
  | graceStops r =>
    obtain ⟨settle, retry, -, held⟩ := h.timed r
    exact h.modRail ⟨settle, retry, nofun, held⟩ .rfl .rfl
  | darkens r hs => exact h.modRail_hold hs rfl nofun fun settle retry => ⟨settle, retry, rfl, rfl⟩
  | isHeld r hs =>
    obtain ⟨settle, retry, grace, -⟩ := h.timed r
    exact h.modRail ⟨settle, retry, grace, fun _ => hs⟩ .rfl .rfl
  | gives r hs _ =>
    obtain ⟨settle, retry, grace, held⟩ := (h.timed r).quiet (.inr (.inl hs))
    exact h.gives hs rfl (Rail.Quiet.timed ⟨settle, retry, grace, held⟩ nofun nofun)
  | empties u => exact h.of_parts (emptyQueue_rails u s).1 (emptyQueue_rails u s).2.1
  | _ => exact h.of_parts rfl rfl

theorem Moves.keeps_orderly (m : Moves s t) (h : Orderly spent s) : Orderly spent t :=
  m.keeps (fun _ _ m => m.keeps_orderly) h

end

end Sys2Proof.Machine
end

/-! # Every command keeps the ramp law -/

section

namespace Sys2Proof.Machine

/-- A change that the ramp law outlasts. -/
def RampSafe (s t : State) : Prop := Orderly none s → Orderly none t

section

variable {n : Site} {r : RailId} {s t u : State}

theorem RampSafe.refl (s : State) : RampSafe s s := id

theorem RampSafe.trans (h : RampSafe s t) (k : RampSafe t u) : RampSafe s u := k ∘ h

/-- Nothing changes in rails and ramp queue. -/
theorem rampSafe_of_parts (rails : t.rails = s.rails := by rfl) (ramp : t.ramp = s.ramp := by rfl) : RampSafe s t :=
  fun h => h.of_parts rails ramp

theorem Moves.rampSafe (m : Moves s t) : RampSafe s t := m.keeps_orderly

theorem Eases.rampSafe (e : Eases s t) : RampSafe s t := e.moves.rampSafe

theorem ite_rampSafe (c : Prop) [Decidable c] (h : c → RampSafe s t) : RampSafe s (if c then t else s) := by
  split
  · rename_i hc; exact h hc
  · exact .refl s

theorem forList_rampSafe {α : Type} (f : α → State → State) (hf : ∀ x s, RampSafe s (f x s)) (l : List α) (s : State) :
    RampSafe s (forList l f s) :=
  forList_induction (RampSafe s) f (fun x u h => h.trans (hf x u)) l s (.refl s)

theorem post_rampSafe (t : Tenant) (x : Notice) (s : State) : RampSafe s (post t x s) := rampSafe_of_parts

theorem carrier_rampSafe (n : Site) (f : Carrier → Carrier) (s : State) : RampSafe s (s.modCarrier n f) :=
  rampSafe_of_parts

theorem port_rampSafe (t : Tenant) (f : Port → Port) (s : State) : RampSafe s (s.modPort t f) := rampSafe_of_parts

theorem reeval_rampSafe (n : Site) (s : State) : RampSafe s (reeval n s) := (reeval_eases n s).rampSafe

theorem wakeCarrier_rampSafe (n : Site) (cls : RampClass) (s : State) : RampSafe s (wakeCarrier n cls s) :=
  (wakeCarrier_moves n cls s).rampSafe

theorem withdraw_rampSafe (n : Site) (why : Reason) (s : State) : RampSafe s (withdraw n why s) :=
  (withdraw_eases n why s).rampSafe

theorem enterWaking_rampSafe (n : Site) (cls : RampClass) (s : State) : RampSafe s (enterWaking n cls s) :=
  (carrier_rampSafe n _ s).trans (enterWaking_moves n cls s).rampSafe

theorem addAlert_rampSafe (code : Fin 10) (s : State) : RampSafe s (addAlert code s) :=
  rampSafe_of_parts rfl rfl

theorem renight_rampSafe (before : Bool) (cause : NightEnd) (s : State) : RampSafe s (renight before cause s) :=
  (renight_moves before cause s).rampSafe

theorem rebank_rampSafe (before : Fin 2) (s : State) : RampSafe s (rebank before s) := (rebank_moves before s).rampSafe

/-- A rail is written, but for what the law looks at. -/
theorem rail_rampSafe (r : RailId) (f : Rail → Rail) (s : State) (same : ∀ x, (f x).phase = x.phase) :
    RampSafe s (s.modRail r f) := fun h => h.modRail_phase (same _)

/-! ### Rails -/

theorem tellPowerGood_rampSafe (r : RailId) (level : Bool) (s : State) : RampSafe s (tellPowerGood r level s) :=
  rail_rampSafe r _ s fun _ => rfl

theorem setBias_phase (cls : Bias) (x : Rail) : (x.setBias cls).phase = x.phase := by
  rw [Rail.setBias]; split <;> rfl

theorem tallySecond_phase (x : Rail) : x.tallySecond.phase = x.phase := by rw [Rail.tallySecond]; split <;> rfl

theorem setRailRule_rampSafe (rail idle even full reduced : Nat) (s : State) :
    RampSafe s (setRailRule rail idle even full reduced s).1 := by
  rw [setRailRule]
  split
  · exact .refl s
  · split
    · rw [answerOk_fst]
      exact rail_rampSafe _ _ s fun _ => rfl
    · exact .refl s

theorem setBiasRule_rampSafe (rail cls : Nat) (s : State) : RampSafe s (setBiasRule rail cls s).1 := by
  rw [setBiasRule]
  split
  · exact .refl s
  · split
    · exact .refl s
    · rw [answerOk_fst]
      exact rail_rampSafe _ _ s (setBias_phase _)

theorem clearTallyRule_rampSafe (rail : Nat) (s : State) : RampSafe s (clearTallyRule rail s).1 := by
  have cleared (r : RailId) (u : State) : RampSafe u (u.modRail r Rail.clearTally) := rail_rampSafe r _ u fun _ => rfl
  rw [clearTallyRule]
  split
  · exact forList_rampSafe _ cleared _ s
  · split
    · exact .refl s
    · exact cleared _ s

/-- A rail in FAULT is switched off. -/
theorem Orderly.cleared (h : Orderly none s) (hs : (s.rail r).state = .fault) :
    Orderly none (s.modRail r fun x => { x with state := .off, retry := false }) := by
  obtain ⟨settle, retry, grace, held⟩ := (h.timed r).quiet (.inr (.inr (.inr hs)))
  exact h.modRail_aloof (by rw [hs]; rfl) rfl (Rail.Quiet.timed ⟨settle, retry, grace, held⟩ nofun nofun)

theorem clearFaultRailRule_rampSafe (rail : Nat) (s : State) : RampSafe s (clearFaultRailRule rail s).1 := by
  rw [clearFaultRailRule]
  split
  · exact .refl s
  · split
    · exact .refl s
    · rename_i hs
      rw [bne_iff_ne, not_not] at hs
      rw [answerOk_fst]
      have cleared : RampSafe s (s.modRail _ fun x => { x with state := .off, retry := false }) := fun h => h.cleared hs
      refine cleared.trans (forList_rampSafe _ (fun n u => ite_rampSafe _ fun _ => ?_) allSites _)
      exact enterWaking_rampSafe n .urgent u

/-- A rail in RAMPING came up without a need, and enters HOLD. -/
theorem Orderly.enterHold (h : Orderly none s) (hs : (s.rail r).state = .ramping) :
    Orderly (some r) (enterHold r (s.modRail r fun x => { x with settleTimer := none, retry := false })) := by
  have stopped : (s.rail r).retryTimer = none := by
    simpa [hs] using (h.timed r).retry
  have holds : Orderly (some r) (s.modRail r fun x =>
      { x with settleTimer := none, retry := false, state := .hold, graceTimer := some s.now, held := false }) :=
    h.spends hs rfl ⟨by simp, by simp [stopped], fun _ => rfl, nofun⟩
  rw [Machine.enterHold, modRail_modRail]
  split
  · exact (graceTest_moves r _ (by rw [rail_modRail_same])).keeps_orderly holds
  · exact holds

theorem Orderly.rampSucceeds (h : Orderly none s) (hs : (s.rail r).state = .ramping) :
    Orderly none (rampSucceeds r s) := by
  rw [Machine.rampSucceeds]
  refine Ramps.releaseSlot (r := r) (Orderly.toRamps ?_)
  split
  · exact h.enterHold hs
  · rw [modRail_modRail]
    refine (powerCarriers_eases r _).moves.keeps_orderly (h.spends hs rfl ?_)
    obtain ⟨-, retry, grace, held⟩ := h.timed r
    rw [hs] at retry grace held
    exact ⟨by simp, by simpa using retry, fun running => absurd (grace running) nofun,
      fun mark => absurd (held mark) nofun⟩

theorem Orderly.rampFails (h : Orderly none s) (hs : (s.rail r).state = .ramping) : Orderly none (rampFails r s) := by
  obtain ⟨-, retry, grace, held⟩ := h.timed r
  rw [hs] at retry grace held
  rw [Machine.rampFails]
  split
  · have faults : Orderly (some r) (s.modRail r fun x =>
        { x with state := .fault, graceTimer := none, settleTimer := none, held := false }) :=
      h.spends hs rfl ⟨by simp, by simpa using retry, nofun, nofun⟩
    exact ((enterFault_moves r s).keeps_orderly (faults.of_parts rfl rfl)).toRamps.releaseSlot
  · exact (h.spends hs rfl ⟨by simp, by simp, fun running => absurd (grace running) nofun,
      fun mark => absurd (held mark) nofun⟩).toRamps.releaseSlot

theorem due_isSome {timer : Option Time} {len : Nat} (h : due s timer len = true) : timer.isSome = true := by
  cases timer with
  | none => cases h
  | some _ => rfl

theorem settleExpires_rampSafe (due : settleDue s r = true) (level : Bool) : RampSafe s (settleExpires r level s) := by
  intro h
  have settles : SettlesRamping s := fun q => (h.timed q).settle.1
  have hs := settles.of_due due
  have told := tellPowerGood_rampSafe r (sampledPowerGood s r level) s h
  have state : ((tellPowerGood r (sampledPowerGood s r level) s).rail r).state = .ramping := by
    rw [tellPowerGood, rail_modRail_same]; exact hs
  rw [settleExpires, if_pos (by rw [hs, beq_self_eq_true])]
  split
  · exact told.rampSucceeds state
  · exact told.rampFails state

theorem retryExpires_rampSafe (due : retryDue s r = true) : RampSafe s (retryExpires r s) := by
  intro h
  have hs := (h.timed r).retry.1 (due_isSome due)
  obtain ⟨settle, -, grace, held⟩ := h.timed r
  rw [hs] at settle grace held
  have aloof : (s.rail r).state.aloof = true := by rw [hs]; rfl
  have quiet : ({ s.rail r with retryTimer := none } : Rail).Quiet :=
    ⟨by simpa using settle, rfl, by simpa using grace, by simpa using held⟩
  rw [retryExpires, if_pos (by rw [hs, beq_self_eq_true])]
  split
  · rw [modRail_modRail]
    exact h.modRail_aloof aloof rfl (Rail.Quiet.timed ⟨quiet.settle, rfl, quiet.grace, quiet.held⟩ nofun nofun)
  · have timed : ({ s.rail r with retryTimer := none, state := .queued } : Rail).Timed :=
      Rail.Quiet.timed ⟨quiet.settle, rfl, quiet.grace, quiet.held⟩ nofun nofun
    rw [queueRail, modRail_modRail]
    exact (h.toRamps.joinRamp aloof rfl timed .urgent).grant

theorem powerFalls_rampSafe (r : RailId) (s : State) : RampSafe s (powerFalls r s) := by
  have told := tellPowerGood_rampSafe r false s
  rw [powerFalls]
  split
  · rename_i hs
    have state : ((tellPowerGood r false s).rail r).state = (s.rail r).state := by rw [tellPowerGood, rail_modRail_same]
    rw [← state, Bool.or_eq_true, beq_iff_eq, beq_iff_eq] at hs
    refine told.trans fun h => (enterFault_moves r _).keeps_orderly ?_
    have retry := (h.timed r).retry
    have faults : Orderly none ((tellPowerGood r false s).modRail r fun x =>
        { x with state := .fault, graceTimer := none, settleTimer := none, held := false }) :=
      h.modRail_aloof (by rcases hs with hs | hs <;> rw [hs] <;> rfl) rfl
        (Rail.Quiet.timed ⟨rfl, by rcases hs with hs | hs <;> simpa [hs] using retry, rfl, rfl⟩ nofun nofun)
    exact faults.of_parts rfl rfl
  · exact told

/-! ### Carriers -/

theorem setCarrierRule_rampSafe (n owner role rail count a0 a1 a2 : Nat) (trim : Int) (s : State) :
    RampSafe s (setCarrierRule n owner role rail count a0 a1 a2 trim s).1 := by
  rw [setCarrierRule]
  split
  · exact .refl s
  · split
    · exact .refl s
    · split
      · dsimp only
        split
        · rw [answerOk_fst]
          exact carrier_rampSafe _ _ s
        · exact .refl s
      · exact .refl s

theorem clearCarrierRule_rampSafe (n : Nat) (s : State) : RampSafe s (clearCarrierRule n s).1 := by
  rw [clearCarrierRule]
  split
  · exact .refl s
  · split
    · exact .refl s
    · split
      · exact .refl s
      · rw [answerOk_fst]
        exact carrier_rampSafe _ _ s

theorem clearFaultCarrierRule_rampSafe (n : Nat) (s : State) : RampSafe s (clearFaultCarrierRule n s).1 := by
  rw [clearFaultCarrierRule]
  split
  · exact .refl s
  · split
    · exact enterWaking_rampSafe _ .ordinary s
    · exact .refl s

theorem enableRule_rampSafe (n : Nat) (s : State) : RampSafe s (enableRule n s).1 := by
  rw [enableRule]
  split
  · exact .refl s
  · rename_i i _
    obtain ⟨p, e⟩ := enablePins_eq s i
    dsimp only
    split
    · exact .refl s
    · split
      · exact .refl s
      · split
        · exact .refl s
        · simp only [e]
          exact (carrier_rampSafe i _ s).trans (enterWaking_rampSafe i .ordinary _)

theorem disableRule_rampSafe (n : Nat) (s : State) : RampSafe s (disableRule n s).1 := by
  rw [disableRule]
  split
  · exact .refl s
  · split
    · exact .refl s
    · rename_i i _ _
      have off : RampSafe s (takeOffline i s) := rampSafe_of_parts
      rw [answerOk_fst]
      exact off.trans (disableCarrier_moves i s).rampSafe

theorem addPin_rampSafe (src : PinSource) (n : Site) (s : State) : RampSafe s (addPin src n s) := by
  cases has : (s.carrier n).pins.has src with
  | true => rw [addPin_present src n s has]; exact .refl s
  | false => exact (carrier_rampSafe n _ s).trans (addPin_moves src n s has).rampSafe

theorem removePin_rampSafe (src : PinSource) (n : Site) (s : State) : RampSafe s (removePin src n s) := by
  cases has : (s.carrier n).pins.has src with
  | true => exact (carrier_rampSafe n _ s).trans (removePin_eases src n s has).rampSafe
  | false => rw [removePin_absent src n s has]; exact .refl s

theorem pinRule_rampSafe (n : Nat) (s : State) : RampSafe s (pinRule n s).1 := by
  rw [pinRule]
  split
  · exact .refl s
  · split
    · exact .refl s
    · exact addPin_rampSafe .site _ s

theorem unpinRule_rampSafe (n : Nat) (s : State) : RampSafe s (unpinRule n s).1 := by
  rw [unpinRule]
  split
  · exact .refl s
  · split
    · exact .refl s
    · exact removePin_rampSafe .site _ s

theorem setSlicesRule_rampSafe (tenant p0 p1 : Nat) (s : State) : RampSafe s (setSlicesRule tenant p0 p1 s).1 := by
  rw [setSlicesRule]
  split
  · split
    · exact .refl s
    · split
      · exact .refl s
      · rw [answerOk_fst]
        exact port_rampSafe _ _ s
  · exact .refl s

/-! ### Clock, lines and banks -/

theorem inputs_rampSafe (i : Inputs) (s : State) : RampSafe s { s with inputs := i } := rampSafe_of_parts

theorem debounceExpires_rampSafe (line : InputLine) (s : State) : RampSafe s (debounceExpires line s) :=
  ((inputs_rampSafe _ s).trans (renight_rampSafe _ _ _)).trans (rebank_rampSafe _ _)

theorem recheckLine_rampSafe (line : InputLine) (s : State) : RampSafe s (recheckLine line s) :=
  (inputs_rampSafe _ s).trans (ite_rampSafe _ fun _ => debounceExpires_rampSafe line _)

theorem clock_rampSafe (c : Clock) (s : State) : RampSafe s { s with clock := c } := rampSafe_of_parts

theorem banks_rampSafe (b : Banks) (s : State) : RampSafe s { s with banks := b } := rampSafe_of_parts

theorem setWindowRule_rampSafe (window enabled start stop : Nat) (s : State) :
    RampSafe s (setWindowRule window enabled start stop s).1 := by
  rw [setWindowRule]
  split
  · split
    · exact .refl s
    · split
      · exact (clock_rampSafe _ s).trans (renight_rampSafe _ _ _)
      · exact .refl s
  · exact .refl s

theorem setTimeRule_rampSafe (tod : Nat) (s : State) : RampSafe s (setTimeRule tod s).1 := by
  rw [setTimeRule]
  split
  · exact (clock_rampSafe _ s).trans (renight_rampSafe _ _ _)
  · exact .refl s

theorem setInputsRule_rampSafe (hold source debounce : Nat) (s : State) :
    RampSafe s (setInputsRule hold source debounce s).1 := by
  rw [setInputsRule]
  split
  · exact ((inputs_rampSafe _ s).trans (recheckLine_rampSafe _ _)).trans (recheckLine_rampSafe _ _)
  · exact .refl s

theorem setBankParamRule_rampSafe (bk code v : Nat) (s : State) : RampSafe s (setBankParamRule bk code v s).1 := by
  rw [setBankParamRule]
  split
  · split
    · exact .refl s
    · split
      · exact .refl s
      · split
        · exact .refl s
        · rw [answerOk_fst, writeParam]
          dsimp only
          split
          · exact (banks_rampSafe _ s).trans (endPeriods_moves _ _).rampSafe
          · exact banks_rampSafe _ s
  · exact .refl s

theorem selectBankRule_rampSafe (mode : Nat) (s : State) : RampSafe s (selectBankRule mode s).1 := by
  rw [selectBankRule]
  split
  · exact .refl s
  · exact (banks_rampSafe _ s).trans (rebank_rampSafe _ _)

theorem writeStandDown_rampSafe (v : Bool) (s : State) : RampSafe s (writeStandDown v s) :=
  (inputs_rampSafe _ s).trans (renight_rampSafe _ _ _)

theorem secondPasses_rampSafe (s : State) : RampSafe s (secondPasses s) :=
  ((clock_rampSafe _ s).trans (forList_rampSafe _ (fun r u => rail_rampSafe r _ u tallySecond_phase) allRails _)).trans
    (renight_rampSafe _ _ _)

/-! ### Tenant requests -/

theorem surge_rampSafe (x : Site) (s : State) : RampSafe s (surge x s) := by
  rw [surge]
  split
  · exact .refl s
  · split
    · exact .refl s
    · split
      · exact .refl s
      · exact (wakeCarrier_rampSafe _ .ordinary s).trans (carrier_rampSafe x _ _)

theorem scheduled_rampSafe (n : Site) (util users : Nat) (s : State) : RampSafe s (scheduled n util users s) := by
  have reevaluated := (carrier_rampSafe n _ s : RampSafe s (reported n util users s)).trans (reeval_rampSafe n _)
  rw [scheduled_eq]
  dsimp only
  split
  · split
    · exact reevaluated.trans (reevalDependents_eases n _).rampSafe
    · exact reevaluated
  · exact carrier_rampSafe n _ s

theorem report_rampSafe (n : Site) (util users : Nat) (s : State) : RampSafe s (report n util users s) := by
  rw [report_eq]
  exact ((scheduled_rampSafe n util users s).trans (ite_rampSafe _ fun _ => withdraw_rampSafe n .busy _)).trans
    (ite_rampSafe _ fun _ => surge_rampSafe n _)

theorem loadRule_rampSafe (util users : Nat) (n : Site) (s : State) : RampSafe s (loadRule util users n s).state := by
  rw [loadRule]
  split
  · exact report_rampSafe n util users s
  · exact report_rampSafe n util users s
  · exact report_rampSafe n util users s
  all_goals exact .refl s

theorem acceptRule_rampSafe (token : Nat) (n : Site) (s : State) : RampSafe s (acceptRule token n s).state := by
  rw [acceptRule]
  split
  · exact (carrier_rampSafe n _ s : RampSafe s (startDrain n s))
  · exact .refl s

theorem declineRule_rampSafe (token : Nat) (n : Site) (s : State) : RampSafe s (declineRule token n s).state := by
  rw [declineRule]
  split
  · rename_i hx
    rw [Bool.and_eq_true] at hx
    exact (returnToActive_eases n s hx.1).rampSafe.trans (dispatch_eases _ _).rampSafe
  · exact .refl s

theorem drainedRule_rampSafe (token : Nat) (n : Site) (s : State) : RampSafe s (drainedRule token n s).state := by
  rw [drainedRule]
  split
  · have slept : RampSafe s (asleepOnTop n s) := rampSafe_of_parts
    simp only [fallAsleep_eq_asleepOnTop]
    exact ((slept.trans (endOfDrain_eases _ _).rampSafe).trans (dispatch_eases _ _).rampSafe).trans
      (needFalls_moves _ _).rampSafe
  · exact .refl s

theorem wakeRule_rampSafe (n : Site) (s : State) : RampSafe s (wakeRule n s).state := by
  rw [wakeRule]
  split
  · exact wakeCarrier_rampSafe n .ordinary s
  · exact withdraw_rampSafe n .busy s
  · exact withdraw_rampSafe n .busy s
  all_goals exact .refl s

theorem keepRule_rampSafe (n : Site) (s : State) : RampSafe s (keepRule n s).state := by
  rw [keepRule]
  split
  · exact .refl s
  · exact addPin_rampSafe .tenant n s

theorem unkeepRule_rampSafe (n : Site) (s : State) : RampSafe s (unkeepRule n s).state := by
  rw [unkeepRule]
  split
  · exact .refl s
  · exact removePin_rampSafe .tenant n s

theorem faultRule_rampSafe (n : Site) (s : State) : RampSafe s (faultRule n s).state := by
  rw [faultRule]
  split
  · rename_i hp
    exact (tenantFault_moves n s hp).rampSafe
  · exact .refl s

theorem clearRule_rampSafe (n : Site) (s : State) : RampSafe s (clearRule n s).state := by
  rw [clearRule]
  split
  · exact enterWaking_rampSafe n .ordinary s
  · exact .refl s

theorem handle_rampSafe (t : Tenant) (kind num unused : Nat) (silent : Bool) (rule : Site → State → Answer) (s : State)
    (h : ∀ n, RampSafe s (rule n s).state) : RampSafe s (handle t kind num unused silent rule s) := by
  rw [handle]
  split
  · exact post_rampSafe _ _ s
  · rename_i n _
    split
    · dsimp only
      split
      · exact h n
      · exact (h n).trans (post_rampSafe _ _ _)
    · exact post_rampSafe _ _ s

theorem handleRequest_rampSafe (i : Instr) (s : State) : RampSafe s (handleRequest i s) := by
  rw [handleRequest.eq_def]
  split
  · exact handle_rampSafe _ _ _ _ _ _ s fun n => loadRule_rampSafe _ _ n s
  · exact handle_rampSafe _ _ _ _ _ _ s fun n => acceptRule_rampSafe _ n s
  · exact handle_rampSafe _ _ _ _ _ _ s fun n => declineRule_rampSafe _ n s
  · exact handle_rampSafe _ _ _ _ _ _ s fun n => drainedRule_rampSafe _ n s
  · exact handle_rampSafe _ _ _ _ _ _ s fun n => wakeRule_rampSafe n s
  · exact handle_rampSafe _ _ _ _ _ _ s fun n => keepRule_rampSafe n s
  · exact handle_rampSafe _ _ _ _ _ _ s fun n => unkeepRule_rampSafe n s
  · exact handle_rampSafe _ _ _ _ _ _ s fun n => faultRule_rampSafe n s
  · exact handle_rampSafe _ _ _ _ _ _ s fun n => clearRule_rampSafe n s
  · exact handle_rampSafe _ _ _ _ _ _ s fun _ => .refl s
  · exact post_rampSafe _ _ s
  · exact .refl s

theorem takeUpTo_rampSafe : ∀ (k : Nat) (t : Tenant) (s : State), RampSafe s (takeUpTo k t s)
  | 0, _, s => .refl s
  | k + 1, t, s => by
    rw [takeUpTo]
    split
    · exact .refl s
    · exact ite_rampSafe _ fun _ => ((port_rampSafe t _ s).trans (handleRequest_rampSafe _ _)).trans
        (takeUpTo_rampSafe k t _)

theorem takeRequests_rampSafe (t : Tenant) (s : State) : RampSafe s (takeRequests t s) := takeUpTo_rampSafe _ t s

/-! ### The tenant ports -/

theorem setLinkPins_rampSafe (t : Tenant) (v : Bool) (which : Carrier → Bool) (s : State) :
    RampSafe s (setLinkPins t v which s) :=
  forList_rampSafe _ (fun n u => ite_rampSafe _ fun _ => carrier_rampSafe n _ u) allSites s

theorem enterLinked_rampSafe (t : Tenant) (s : State) : RampSafe s (enterLinked t s) :=
  (((port_rampSafe t _ s).trans (setLinkPins_rampSafe t false _ _)).trans (reevalOwned_eases t _).rampSafe).trans
    (takeRequests_rampSafe t _)

theorem enterSilent_rampSafe (t : Tenant) (state : LinkState) (s : State) : RampSafe s (enterSilent t state s) := by
  have silenced : RampSafe s (silenced t state s) :=
    ((port_rampSafe t _ s).trans (Moves.rampSafe (Move.empties t).run)).trans (setLinkPins_rampSafe t true _ _)
  rw [enterSilent_eq]
  exact (silenced.trans (withdrawWhere_eases _ _ _).rampSafe).trans (bulkWake_moves _ _ _).rampSafe

theorem enterDisabled_rampSafe (t : Tenant) (s : State) : RampSafe s (enterDisabled t s) :=
  (enterSilent_rampSafe t .disabled s).trans (port_rampSafe t _ _)

theorem setPortEffect_rampSafe (t : Tenant) (en : Bool) (window slots : Nat) (s : State) :
    RampSafe s (setPortEffect t en window slots s) := by
  have written (u : State) : RampSafe u (writePort t window slots u) := port_rampSafe t _ u
  rw [setPortEffect.eq_def]
  split
  · exact written s
  · exact (written s).trans (enterLinked_rampSafe t _)
  · exact .refl s
  · exact (enterDisabled_rampSafe t s).trans (written _)

theorem setPortRule_rampSafe (tenant enabled window slots : Nat) (s : State) :
    RampSafe s (setPortRule tenant enabled window slots s).1 := by
  rw [setPortRule]
  split
  · dsimp only
    split
    · exact .refl s
    · split
      · exact .refl s
      · exact setPortEffect_rampSafe _ _ window slots s
  · exact .refl s

theorem linkWindowExpires_rampSafe (t : Tenant) (s : State) : RampSafe s (linkWindowExpires t s) := by
  rw [linkWindowExpires]
  split
  · exact (enterSilent_rampSafe t .lost s).trans (addAlert_rampSafe _ _)
  · exact port_rampSafe t _ s

theorem ackAlertRule_rampSafe (count : Nat) (slots : List Nat) (s : State) :
    RampSafe s (ackAlertRule count slots s).1 := by
  refine rampSafe_of_parts ?_ ?_ <;> rw [ackAlertRule] <;> split <;> rfl

theorem deliver_rampSafe (t : Tenant) (s : State) : RampSafe s (deliver t s) :=
  (port_rampSafe t _ s).trans (ite_rampSafe _ fun _ => takeRequests_rampSafe t _)

theorem linkHeard_rampSafe (t : Tenant) (s : State) : RampSafe s (linkHeard t s) := by
  rw [linkHeard]
  split
  · exact port_rampSafe t _ s
  · exact enterLinked_rampSafe t s
  · exact .refl s

theorem arrive_rampSafe (t : Tenant) (q : Request) (s : State) : RampSafe s (arrive t q s) := by
  rw [arrive]
  split
  · exact .refl s
  · split
    · exact port_rampSafe t _ s
    · exact (port_rampSafe t _ s).trans (addAlert_rampSafe _ _)

theorem frameKind_rampSafe (t : Tenant) (q : Request) (s : State) : RampSafe s (frameKind t q s) := by
  rw [frameKind]
  split
  · exact .refl s
  · split
    · exact port_rampSafe t _ s
    · exact arrive_rampSafe t q s

theorem endTransfer_rampSafe (t : Tenant) (edges : Nat) (inb : BitVec 128) (s : State) :
    RampSafe s (endTransfer t edges inb s) := by
  rw [endTransfer]
  refine (port_rampSafe t (fun p => { p with transfer := .idle, stallTimer := none }) s).trans ?_
  split
  · exact port_rampSafe t _ _
  · refine (deliver_rampSafe t _).trans ?_
    split
    · exact ((linkHeard_rampSafe t _).trans (frameKind_rampSafe t _ _)).trans (takeRequests_rampSafe t _)
    · exact port_rampSafe t _ _

theorem selectRises_rampSafe (t : Tenant) (s : State) : RampSafe s (selectRises t s) := by
  rw [selectRises]
  split
  · exact .refl s
  · refine (port_rampSafe t (fun p => { p with tselHigh := true }) s).trans ?_
    split
    · exact .refl _
    · exact port_rampSafe t _ _
    · exact endTransfer_rampSafe t _ _ _

/-! ### The site port -/

theorem mgmt_rampSafe (m : Mgmt) (s : State) : RampSafe s { s with mgmt := m } := rampSafe_of_parts

theorem respond_rampSafe {a : State × Response} (h : RampSafe s a.1) : RampSafe s (respond a) :=
  h.trans (mgmt_rampSafe _ _)

theorem readRailRule_rampSafe (rail : Nat) (s : State) : RampSafe s (readRailRule rail s).1 := by
  refine rampSafe_of_parts ?_ ?_ <;> rw [readRailRule] <;> split <;> rfl

theorem siteRule_rampSafe (i : Instr) (s : State) : RampSafe s (siteRule i s).1 := by
  rw [siteRule.eq_def]
  split
  · exact setCarrierRule_rampSafe _ _ _ _ _ _ _ _ _ s
  · exact clearCarrierRule_rampSafe _ s
  · exact enableRule_rampSafe _ s
  · exact disableRule_rampSafe _ s
  · exact pinRule_rampSafe _ s
  · exact unpinRule_rampSafe _ s
  · exact setSlicesRule_rampSafe _ _ _ s
  · exact setRailRule_rampSafe _ _ _ _ _ s
  · exact setBiasRule_rampSafe _ _ s
  · exact clearFaultCarrierRule_rampSafe _ s
  · exact clearFaultRailRule_rampSafe _ s
  · exact setWindowRule_rampSafe _ _ _ _ s
  · exact setTimeRule_rampSafe _ s
  · exact clock_rampSafe _ s
  · exact setInputsRule_rampSafe _ _ _ s
  · exact setBankParamRule_rampSafe _ _ _ s
  · exact selectBankRule_rampSafe _ s
  · exact writeStandDown_rampSafe true s
  · exact writeStandDown_rampSafe false s
  · exact setPortRule_rampSafe _ _ _ _ s
  · exact ackAlertRule_rampSafe _ _ s
  · exact clearTallyRule_rampSafe _ s
  · rw [(readRule_state s).1]; exact .refl s
  · exact readRailRule_rampSafe _ s
  · rw [(readRule_state s).2]; exact .refl s
  all_goals exact .refl s

theorem processRecord_rampSafe (bytes : List Byte) (s : State) : RampSafe s (processRecord bytes s) := by
  rw [processRecord]
  split
  · exact .refl s
  · exact respond_rampSafe (siteRule_rampSafe _ s)

theorem endWrite_rampSafe (s : State) : RampSafe s (endWrite s) := by
  rw [endWrite]
  split
  · exact processRecord_rampSafe _ s
  all_goals exact .refl s

/-- After a reset every rail is off and the queue is empty. -/
theorem orderly_resetState (addr : Nat) (s : State) : Orderly none (resetState addr s) := by
  refine ⟨⟨List.nodup_nil, fun r => ?_⟩, fun _ => rfl⟩
  obtain ⟨level, e⟩ := resetState_rail addr s r
  rw [e]
  exact ⟨⟨nofun, nofun⟩, ⟨nofun, by rintro (h | h) <;> cases h⟩, nofun,
    Rail.Quiet.timed ⟨rfl, rfl, rfl, rfl⟩ nofun nofun⟩

theorem powerOnReset_rampSafe (addr : Nat) (s : State) : RampSafe s (powerOnReset addr s) := by
  have reset : RampSafe s (resetState addr s) := fun _ => orderly_resetState addr s
  rw [powerOnReset_eq]
  exact (reset.trans (recheckLine_rampSafe _ _)).trans (recheckLine_rampSafe _ _)

/-! ### Every command -/

/-- A site request's command answers with its rule. -/
theorem siteRequest_rampSafe (i : Instr)
    (h : (.next (respond (siteRule i s)) : Host.Outcome State Fault Refusal) = .next t) : RampSafe s t := by
  cases h; exact respond_rampSafe (siteRule_rampSafe i s)

/-- A tenant request's command is taken or changes nothing. -/
theorem tenantRequest_rampSafe (t : Tenant) (i : Instr)
    (h : (.next (whenTaken t (handleRequest i) s) : Host.Outcome State Fault Refusal) = .next u) : RampSafe s u := by
  cases h; exact ite_rampSafe _ fun _ => handleRequest_rampSafe i s

theorem exec_rampSafe {i : Instr} (h : exec i s = .next t) : RampSafe s t := by
  cases i with
  | powerOnReset addr => cases h; exact powerOnReset_rampSafe addr s
  | malformedSiteRecord bytes => cases h; exact processRecord_rampSafe bytes s
  | busTimeout => cases h; exact ite_rampSafe _ fun _ => mgmt_rampSafe _ s
  | transferStart t => cases h; exact port_rampSafe t _ s
  | stallTimeout t => cases h; exact ite_rampSafe _ fun _ => port_rampSafe t _ s
  | frameEnd t => cases h; exact selectRises_rampSafe t s
  | load t num util users unused => exact tenantRequest_rampSafe t (.load t num util users unused) h
  | accept t num token unused => exact tenantRequest_rampSafe t (.accept t num token unused) h
  | decline t num token unused => exact tenantRequest_rampSafe t (.decline t num token unused) h
  | drained t num token unused => exact tenantRequest_rampSafe t (.drained t num token unused) h
  | wake t num unused => exact tenantRequest_rampSafe t (.wake t num unused) h
  | keep t num unused => exact tenantRequest_rampSafe t (.keep t num unused) h
  | unkeep t num unused => exact tenantRequest_rampSafe t (.unkeep t num unused) h
  | fault t num unused => exact tenantRequest_rampSafe t (.fault t num unused) h
  | clear t num unused => exact tenantRequest_rampSafe t (.clear t num unused) h
  | query t num unused => exact tenantRequest_rampSafe t (.query t num unused) h
  | unknownTenantRequest t kind num => exact tenantRequest_rampSafe t (.unknownTenantRequest t kind num) h
  | linkWindowExpiry t => cases h; exact ite_rampSafe _ fun _ => linkWindowExpires_rampSafe t s
  | staleTimerExpiry n => cases h; exact ite_rampSafe _ fun _ => (staleExpires_moves n s).rampSafe
  | answerTimerExpiry n => cases h; exact ite_rampSafe _ fun _ => (answerExpires_moves n s).rampSafe
  | drainTimerExpiry n => cases h; exact ite_rampSafe _ fun _ => (drainExpires_moves n s).rampSafe
  | dwellElapses n =>
    cases h; exact ite_rampSafe _ fun _ => (dwellEnds_moves n s).rampSafe.trans (reeval_rampSafe n _)
  | minAwakePasses n =>
    cases h; exact ite_rampSafe _ fun _ => (minAwakeEnds_moves n s).rampSafe.trans (reeval_rampSafe n _)
  | surgeHoldoffEnds n => cases h; exact ite_rampSafe _ fun _ => carrier_rampSafe n _ s
  | graceExpiry r => cases h; exact ite_rampSafe _ fun _ => (graceExpires_moves r s).rampSafe
  | settleExpiry r level => cases h; exact ite_rampSafe _ fun due => settleExpires_rampSafe due level
  | retryWaitExpiry r => cases h; exact ite_rampSafe _ fun due => retryExpires_rampSafe due
  | secondsEvent => cases h; exact secondPasses_rampSafe s
  | inputLevelChange line level => cases h; exact (inputs_rampSafe _ s).trans (recheckLine_rampSafe line _)
  | debounceExpiry line => cases h; exact ite_rampSafe _ fun _ => debounceExpires_rampSafe line s
  | powerGoodFall r => cases h; exact powerFalls_rampSafe r s
  | tclkRisingEdge t tdin => cases h; exact port_rampSafe t _ s
  | i2cStartCondition address read => cases h; exact (endWrite_rampSafe s).trans (mgmt_rampSafe _ _)
  | i2cStopCondition => cases h; exact (endWrite_rampSafe s).trans (mgmt_rampSafe _ _)
  | i2cDataByte byte ack => cases h; exact mgmt_rampSafe _ s
  | sclEdge rising => cases h; exact mgmt_rampSafe _ s
  | setCarrier n owner role rail count a0 a1 a2 trim =>
    exact siteRequest_rampSafe (.setCarrier n owner role rail count a0 a1 a2 trim) h
  | clearCarrier n => exact siteRequest_rampSafe (.clearCarrier n) h
  | enable n => exact siteRequest_rampSafe (.enable n) h
  | disable n => exact siteRequest_rampSafe (.disable n) h
  | pin n => exact siteRequest_rampSafe (.pin n) h
  | unpin n => exact siteRequest_rampSafe (.unpin n) h
  | setSlices t p q => exact siteRequest_rampSafe (.setSlices t p q) h
  | setRail r i b f d => exact siteRequest_rampSafe (.setRail r i b f d) h
  | setBias r c => exact siteRequest_rampSafe (.setBias r c) h
  | clearFaultCarrier n => exact siteRequest_rampSafe (.clearFaultCarrier n) h
  | clearFaultRail r => exact siteRequest_rampSafe (.clearFaultRail r) h
  | setWindow w e x y => exact siteRequest_rampSafe (.setWindow w e x y) h
  | setTime tod => exact siteRequest_rampSafe (.setTime tod) h
  | setDivider d => exact siteRequest_rampSafe (.setDivider d) h
  | setInputs p q d => exact siteRequest_rampSafe (.setInputs p q d) h
  | setBankParam b p v => exact siteRequest_rampSafe (.setBankParam b p v) h
  | selectBank m => exact siteRequest_rampSafe (.selectBank m) h
  | standDown => exact siteRequest_rampSafe .standDown h
  | resume => exact siteRequest_rampSafe .resume h
  | setPort t e w d => exact siteRequest_rampSafe (.setPort t e w d) h
  | ackAlert c slots => exact siteRequest_rampSafe (.ackAlert c slots) h
  | clearTally r => exact siteRequest_rampSafe (.clearTally r) h
  | readCarrier n => exact siteRequest_rampSafe (.readCarrier n) h
  | readRail r => exact siteRequest_rampSafe (.readRail r) h
  | readTenant t => exact siteRequest_rampSafe (.readTenant t) h
  | readSite => exact siteRequest_rampSafe .readSite h
  | readTally => exact siteRequest_rampSafe .readTally h

theorem step_rampSafe (h : step s = .next t) : RampSafe s t := by
  rw [step] at h
  split at h
  · rename_i rest _
    have taken : RampSafe s { s with pending := rest } := rampSafe_of_parts
    exact taken.trans (exec_rampSafe h)
  · split at h
    · rename_i i _
      obtain ⟨-, rails, ramp⟩ := countRead_parts i s
      exact (rampSafe_of_parts rails ramp).trans (exec_rampSafe h)
    · cases h
      exact rampSafe_of_parts

end

/-- Settles O57: the law is looked at rail by rail; a rail taken out of RAMPING holds the slot until its release, and
the release restores the law. -/
theorem stepKeepsRamp : Obligations.StepKeepsRamp := fun _ _ h hstep =>
  rampOk_iff.2 (step_rampSafe hstep (rampOk_iff.1 h))

end Sys2Proof.Machine
end

/-! # Rails: the grant, the configuration requests, needs and timers -/

section

namespace Sys2Proof.Machine

/-! ### The grant of the ramp slot -/

theorem satSucc_tallyMax (v : Nat) : satSucc Config.tallyMax v = if v < 4294967295 then v + 1 else v := rfl

theorem settle_eq (x : Rail) : x.settle = if x.bias = .full then x.settleFull else x.settleReduced := by
  rw [Rail.settle]
  cases x.bias <;> rfl

theorem grant_of_head {r : RailId} {rest : List RailId} {s : State} (free : s.ramp.slot = none)
    (head : s.ramp.queue = r :: rest) : grant s = grantTo r s := by
  rw [grant, free]
  simp only [head]

theorem rail_grantTo (r : RailId) (s : State) : (grantTo r s).rail r = (s.rail r).granted s.now :=
  rail_modRail_same s r (Rail.granted s.now)

theorem queue_grantTo {r : RailId} {rest : List RailId} {s : State} (head : s.ramp.queue = r :: rest)
    (once : r ∉ rest) : (grantTo r s).ramp.queue = rest := by
  have kept : rest.filter (· != r) = rest :=
    List.filter_eq_self.2 fun q hq => bne_iff_ne.2 fun e => once (e ▸ hq)
  have filtered : (grantTo r s).ramp.queue = s.ramp.queue.filter (· != r) := (List.filter_append ..).symm
  rw [filtered, head]
  simpa using kept

/-- Settles O20, by the two cases of a grant: there is nothing to grant, or the head is granted the slot. -/
theorem grantSteps : Obligations.GrantSteps := by
  intro s
  refine ⟨fun idle => ?_, fun r rest free head once => ?_⟩
  · rcases grant_cases s with ⟨r, rest, free, head, -⟩ | ⟨same, -⟩
    · rcases idle with held | empty
      · exact absurd free held
      · rw [head] at empty; cases empty
    · exact same
  · rw [grant_of_head free head]
    refine ⟨queue_grantTo head once, rfl, ?_, fun q hq => grantTo_rail_ne s hq, rfl⟩
    rw [rail_grantTo]
    simp only [Rail.granted, settle_eq, satSucc_tallyMax]

/-! ### Configuration -/

theorem modRail_congr {s : State} {r : RailId} {f g : Rail → Rail} (h : f (s.rail r) = g (s.rail r)) :
    s.modRail r f = s.modRail r g := by
  rw [State.rail] at h
  simp only [State.modRail, h]

theorem railOf_of_le {code : Nat} (h : 4 ≤ code) : railOf code = none := railOf_of_lt h

theorem biasOf_code (b : Bias) : biasOf b.code = some b := by cases b <;> rfl

theorem biasOf_of_lt {code : Nat} (h : 1 < code) : biasOf code = none := by
  match code, h with
  | _ + 2, _ => rfl

theorem setBias_eq (b : Bias) (x : Rail) : x.setBias b =
    if x.state = .ramping ∨ x.state = .on ∨ x.state = .hold then { x with pendingBias := some b }
    else { x with bias := b, pendingBias := none } := by
  rw [Rail.setBias]
  cases x.state <;> rfl

/-- A loop that writes every rail. -/
theorem rail_forRails_modRail (f : Rail → Rail) (s : State) (r : RailId) :
    (forRails (fun q u => u.modRail q f) s).rail r = f (s.rail r) := by
  have turns : (forRails (fun q u => u.modRail q f) s) =
    (((s.modRail 0 f).modRail 1 f).modRail 2 f).modRail 3 f := rfl
  rw [turns]
  match r with
  | 0 | 1 | 2 | 3 => simp [rail_modRail]

theorem exec_setRail (rail power even full reduced : Nat) (s : State) :
    exec (.setRail rail power even full reduced) s = .next (respond (setRailRule rail power even full reduced s)) := rfl

theorem exec_setBias (rail cls : Nat) (s : State) :
    exec (.setBias rail cls) s = .next (respond (setBiasRule rail cls s)) := rfl

theorem exec_clearTally (rail : Nat) (s : State) :
    exec (.clearTally rail) s = .next (respond (clearTallyRule rail s)) := rfl

theorem setRailRule_of_le {rail power even full reduced : Nat} {s : State} (h : 4 ≤ rail) :
    setRailRule rail power even full reduced s = refuse .noSuch s := by
  rw [setRailRule, railOf_of_le h]

theorem setRailRule_val (r : RailId) (power even full reduced : Nat) (s : State) :
    setRailRule r.val power even full reduced s =
      if 400 < power ∨ 3600 < even ∨ full < 10 ∨ 2000 < full ∨ reduced < 10 ∨ 2000 < reduced then refuse .badField s
      else answerOk (s.modRail r fun x =>
        { x with idlePower := power, breakEven := even, settleFull := full, settleReduced := reduced }) := by
  rw [setRailRule, railOf_val]
  by_cases h : 400 < power ∨ 3600 < even ∨ full < 10 ∨ 2000 < full ∨ reduced < 10 ∨ 2000 < reduced
  · rw [if_pos h]
    refine if_neg ?_
    simp only [Bool.and_eq_true, decide_eq_true_eq]
    omega
  · rw [if_neg h]
    refine if_pos ?_
    simp only [Bool.and_eq_true, decide_eq_true_eq]
    omega

/-- Settles O15, request by request and check by check. -/
theorem railConfigurationRequests : Obligations.RailConfigurationRequests := by
  refine ⟨fun rail power even full reduced s => ⟨fun h => ?_, ?_⟩,
    fun rail cls s => ⟨fun h => ?_, fun hr hc => ?_, ?_⟩,
    fun rail s => ⟨fun h one => ?_, ?_, ?_⟩⟩
  · rw [exec_setRail, setRailRule_of_le h]
  · rintro r rfl
    rw [exec_setRail, setRailRule_val]
    split <;> rfl
  · rw [exec_setBias, setBiasRule, railOf_of_le h]
  · lift rail to RailId using hr
    rw [exec_setBias, setBiasRule, railOf_val]
    simp only [biasOf_of_lt hc]
  · rintro r b rfl rfl
    rw [exec_setBias, setBiasRule, railOf_val]
    simp only [biasOf_code, setBias_eq]
  · rw [exec_clearTally, clearTallyRule, if_neg one, railOf_of_le h]
  · rintro r rfl
    have one : r.val ≠ 0xFF := by omega
    rw [exec_clearTally, clearTallyRule, if_neg one, railOf_val]
    rfl
  · rintro rfl
    exact ⟨_, rfl, rail_forRails_modRail Rail.clearTally s, rfl⟩

/-! ### Needs and timers -/

/-- The test at the end of a grace period, as one write of the rail (R110). -/
theorem graceTest_write (r : RailId) (s : State) : graceTest r s = s.modRail r fun x =>
    if sleepersOn s r = 0 ∨ (night s = true ∧ (s.rail r).breakEven ≤ remaining s) then
      { x with state := .off, graceTimer := none, held := false }
    else { x with graceTimer := none, held := true } := by
  rw [graceTest, railOff, modRail_modRail, modRail_modRail]
  by_cases empty : sleepersOn s r = 0
  · simp [empty]
  · by_cases dark : night s = true ∧ (s.rail r).breakEven ≤ remaining s <;> simp [empty, dark]

/-- The same right after another write of the rail. -/
theorem graceTest_modRail {r : RailId} {f : Rail → Rail} (even : ∀ x, (f x).breakEven = x.breakEven) (s : State) :
    graceTest r (s.modRail r f) = s.modRail r fun x =>
      if sleepersOn s r = 0 ∨ (night s = true ∧ (s.rail r).breakEven ≤ remaining s) then
        { f x with state := .off, graceTimer := none, held := false }
      else { f x with graceTimer := none, held := true } := by
  have counted : sleepersOn (s.modRail r f) r = sleepersOn s r := rfl
  have dark : night (s.modRail r f) = night s := rfl
  have left : remaining (s.modRail r f) = remaining s := rfl
  rw [graceTest_write, modRail_modRail]
  simp only [counted, dark, left, rail_modRail_same, even]

/-- A grace of 0 expires at once (R108). -/
theorem enterHold_write_of_zero {r : RailId} {s : State} (grace : (bank s).railGrace = 0) :
    enterHold r s = s.modRail r fun x =>
      if sleepersOn s r = 0 ∨ (night s = true ∧ (s.rail r).breakEven ≤ remaining s) then
        { x with state := .off, graceTimer := none, held := false }
      else { x with state := .hold, graceTimer := none, held := true } := by
  rw [enterHold, if_pos grace, graceTest_modRail]
  exact fun _ => rfl

theorem enterHold_write_of_pos {r : RailId} {s : State} (grace : (bank s).railGrace ≠ 0) :
    enterHold r s = s.modRail r fun x => { x with state := .hold, graceTimer := some s.now, held := false } := by
  rw [enterHold, if_neg grace]

theorem needFalls_of_needed {r : RailId} {s : State} (h : needCount s r ≠ 0) : needFalls r s = s := by
  rw [needFalls, if_neg h]

theorem needFalls_of_on {r : RailId} {s : State} (h : needCount s r = 0) (on : (s.rail r).state = .on) :
    needFalls r s = enterHold r s := by
  rw [needFalls, if_pos h, on]

theorem needFalls_of_queued {r : RailId} {s : State} (h : needCount s r = 0) (queued : (s.rail r).state = .queued) :
    needFalls r s = leaveRamp r (s.modRail r fun x => { x with state := .off }) := by
  rw [needFalls, if_pos h, queued]

theorem needFalls_elsewhere {r : RailId} {s : State} (on : (s.rail r).state ≠ .on)
    (queued : (s.rail r).state ≠ .queued) : needFalls r s = s := by
  rw [needFalls]
  cases h : (s.rail r).state with
  | on => exact absurd h on
  | queued => exact absurd h queued
  | _ => exact ite_self s

theorem exec_graceExpiry (r : RailId) (s : State) :
    exec (.graceExpiry r) s = .next (if graceDue s r then graceExpires r s else s) := rfl

theorem exec_retryWaitExpiry (r : RailId) (s : State) :
    exec (.retryWaitExpiry r) s = .next (if retryDue s r then retryExpires r s else s) := rfl

theorem graceExpires_of_hold {r : RailId} {s : State} (h : (s.rail r).state = .hold) :
    graceExpires r s = graceTest r s := by
  rw [graceExpires, h]; rfl

theorem retryExpires_unneeded {r : RailId} {s : State} (h : (s.rail r).state = .retryWait) (hn : needCount s r = 0) :
    retryExpires r s = s.modRail r fun x => { x with retryTimer := none, state := .off } := by
  rw [retryExpires, if_pos (by rw [h, beq_self_eq_true]), if_pos hn, modRail_modRail]

theorem retryExpires_needed {r : RailId} {s : State} (h : (s.rail r).state = .retryWait) (hn : needCount s r ≠ 0) :
    retryExpires r s = queueRail r .urgent (s.modRail r fun x => { x with retryTimer := none }) := by
  rw [retryExpires, if_pos (by rw [h, beq_self_eq_true]), if_neg hn]

/-- Settles O17, clause by clause, each by what its operation does in that state. -/
theorem railNeedsAndTimers : Obligations.RailNeedsAndTimers := by
  intro r s
  refine ⟨needFalls_of_needed, fun unneeded => ⟨?_, ?_, ?_, needFalls_elsewhere⟩, ?_, ?_, ?_, ?_, ?_⟩
  · intro on grace
    rw [needFalls_of_on unneeded on, enterHold_write_of_pos grace]
  · intro on grace
    rw [needFalls_of_on unneeded on, enterHold_write_of_zero grace]
  · intro queued
    rw [needFalls_of_queued unneeded queued]
    rfl
  · rw [sleeperLeaves]
    simp only [Bool.and_eq_true, beq_iff_eq, and_assoc]
    rfl
  · intro due
    rw [exec_graceExpiry, due]
    rfl
  · intro due
    rw [exec_retryWaitExpiry, due]
    rfl
  · intro due hold
    rw [exec_graceExpiry, if_pos due, graceExpires_of_hold hold, graceTest_write]
  · intro due wait
    rw [exec_retryWaitExpiry, if_pos due]
    refine ⟨fun unneeded => ?_, fun needed held => ?_, fun needed free => ?_⟩
    · rw [retryExpires_unneeded wait unneeded]
    · have slot : (s.modRail r fun x => { x with retryTimer := none }).ramp.slot ≠ none := held
      rw [retryExpires_needed wait needed, queueRail_of_held slot, modRail_modRail]
      rfl
    · have idle : (s.modRail r fun x => { x with retryTimer := none }).ramp = ⟨[], [], none⟩ := free
      obtain ⟨carriers, ramp, state, -, -⟩ := queueRail_idle (r := r) (cls := .urgent) idle
      rw [retryExpires_needed wait needed]
      refine ⟨_, rfl, state, ?_, ramp, carriers, (queueRail_apart r .urgent _).ports⟩
      rw [queueRail_of_idle idle, rail_grantTo, rail_joinRamp, modRail_modRail, rail_modRail_same]
      rfl

end Sys2Proof.Machine
end

/-! # The read requests -/

section

namespace Sys2Proof.Machine

theorem length_beBytes : ∀ n v : Nat, (beBytes n v).length = n
  | 0, _ => rfl
  | n + 1, v => congrArg (· + 1) (length_beBytes n v)

theorem length_timeBytes (t : Option Time) : (timeBytes t).length = 7 := by
  cases t with
  | none => rfl
  | some _ => rw [timeBytes, List.length_cons, length_beBytes]

theorem length_paddedBytes (len : Nat) (vs : List Nat) : (paddedBytes len vs).length = len := by
  rw [paddedBytes, List.length_map, List.length_take, List.length_append, List.length_replicate]
  omega

theorem length_windowBytes (w : Window) : (windowBytes w).length = 5 := by
  rw [windowBytes, List.length_cons, List.length_append, length_beBytes, length_beBytes]

theorem length_rampQueueBytes (q : Ramp) : (rampQueueBytes q).length = 4 := length_paddedBytes ..

/-- The bits of a rail's status byte (R193). -/
theorem getLsbD_railStatus (retry held enabled good : Bool) :
    (byteOf (bitsCode [retry, held, enabled, good])).getLsbD 2 = enabled ∧
      (byteOf (bitsCode [retry, held, enabled, good])).getLsbD 3 = good := by
  revert retry held enabled good
  decide

/-- The level of RAIL_PG as a read shows it (log entry 5). -/
theorem presentPowerGood_eq (s : State) (r : RailId) : presentPowerGood s r =
    if (s.rail r).state = .on ∨ (s.rail r).state = .hold ∨ (s.rail r).toldAt = some s.now then (s.rail r).powerGood
    else Config.railPowerGood s.envReads := by
  simp only [presentPowerGood, knowsPowerGood, toldNow, Bool.or_eq_true, beq_iff_eq, or_assoc]

/-! ### The data of the responses -/

theorem carrierData_places (s : State) (i : Site) : (carrierData s i).length = 68 ∧
    (carrierData s i)[0]? = some (byteOf (s.carrier i).provisioned.toNat) ∧
    (carrierData s i)[10]? = some (byteOf (s.carrier i).power.code) ∧
    (carrierData s i)[12]? = some (byteOf (s.carrier i).pins.code) ∧
    (carrierData s i)[44]? = some (s.carrier i).token := by
  simp [carrierData, length_beBytes, length_timeBytes, length_paddedBytes]

theorem railData_places (s : State) (r : RailId) : (railData s r).length = 44 ∧
    (railData s r)[10]? = some (byteOf (s.rail r).state.code) ∧
    (railData s r)[13]? = some (byteOf (needCount s r)) ∧
    (railData s r)[14]? = some (byteOf (bitsCode
      [(s.rail r).retry, (s.rail r).held, (s.rail r).state.enabled, presentPowerGood s r])) := by
  simp [railData, length_beBytes, length_timeBytes]

theorem tenantData_places (s : State) (t : Tenant) : (tenantData s t).length = 37 ∧
    (tenantData s t)[0]? = some (byteOf (s.port t).link.code) ∧
    (tenantData s t)[13]? = some (byteOf (outstanding s t)) ∧
    (tenantData s t)[33]? = some (byteOf (s.port t).fifo.length) := by
  simp [tenantData, length_beBytes, length_timeBytes, length_paddedBytes]

theorem siteData_places (s : State) : (siteData s).length = 39 ∧
    (siteData s)[36]? = some (byteOf s.stack.length) ∧ (siteData s).take 3 = beBytes 3 s.clock.tod := by
  refine ⟨?_, ?_, rfl⟩ <;>
    simp [siteData, length_beBytes, length_windowBytes, length_rampQueueBytes]

theorem tallyData_places (s : State) : (tallyData s).length = 52 ∧
    (∀ r : RailId, ((tallyData s).drop (12 * r.val + 8)).take 4 = beBytes 4 (s.rail r).savedWh) ∧
    (tallyData s).drop 48 = beBytes 4 (List.ofFn fun r : RailId => (s.rail r).savedWh).sum := by
  have total : (List.ofFn fun r : RailId => (s.rail r).savedWh) = allRails.map fun r => (s.rail r).savedWh := rfl
  refine ⟨rfl, fun r => ?_, by rw [total]; rfl⟩
  match r with
  | 0 | 1 | 2 | 3 => rfl

theorem exec_readCarrier (n : Nat) (s : State) : exec (.readCarrier n) s = .next (respond (readCarrierRule n s)) := rfl

theorem exec_readRail (r : Nat) (s : State) : exec (.readRail r) s = .next (respond (readRailRule r s)) := rfl

theorem exec_readTenant (t : Nat) (s : State) : exec (.readTenant t) s = .next (respond (readTenantRule t s)) := rfl

/-- Settles O50, request by request: the refusal of an unknown number, and the bytes of the data at their places. -/
theorem readRequests : Obligations.ReadRequests := by
  intro s
  refine ⟨fun n h => ?_, fun r h => ?_, fun t h => ?_, fun i => ?_, fun r => ?_, fun t => ?_, ?_, ?_⟩
  · rw [exec_readCarrier, readCarrierRule, siteOf_of_le h]
  · rw [exec_readRail, readRailRule, railOf_of_le h]
  · rw [exec_readTenant, readTenantRule, tenantOf_of_lt h]
  · refine ⟨carrierData s i, ?_, carrierData_places s i⟩
    rw [exec_readCarrier, readCarrierRule, siteOf_val]
  · obtain ⟨length, state, needs, status⟩ := railData_places s r
    obtain ⟨enabled, good⟩ := getLsbD_railStatus (s.rail r).retry (s.rail r).held (s.rail r).state.enabled
      (presentPowerGood s r)
    refine ⟨railData s r, ?_, length, state, needs, _, status, enabled, good.trans (presentPowerGood_eq s r)⟩
    rw [exec_readRail, readRailRule, railOf_val]
  · refine ⟨tenantData s t, ?_, tenantData_places s t⟩
    rw [exec_readTenant, readTenantRule, tenantOf_code]
  · exact ⟨siteData s, rfl, siteData_places s⟩
  · exact ⟨tallyData s, rfl, tallyData_places s⟩

end Sys2Proof.Machine
end

/-! # The seconds event -/

section

namespace Sys2Proof.Machine

/-- What a second adds to the off-seconds of a rail (R126). -/
theorem tallySecond_eq (x : Rail) : x.tallySecond = { x with offSeconds :=
    if (x.state = .off ∨ x.state = .queued ∨ x.state = .retryWait) ∧ x.offSeconds < 4294967295 then x.offSeconds + 1
    else x.offSeconds } := by
  have dark : x.state.dark = true ↔ x.state = .off ∨ x.state = .queued ∨ x.state = .retryWait := by
    cases x.state <;> decide
  rw [Rail.tallySecond, satSucc_tallyMax]
  simp only [dark, ite_and]
  split <;> rfl

theorem rail_mapRails (f : Rail → Rail) (s : State) (r : RailId) :
    ({ s with rails := s.rails.map f } : State).rail r = f (s.rail r) := Vector.getElem_map ..

/-- A loop that writes every rail writes them all at once. -/
theorem forRails_modRail_eq (f : Rail → Rail) (s : State) :
    forRails (fun r u => u.modRail r f) s = { s with rails := s.rails.map f } := by
  have rails : (forRails (fun r u => u.modRail r f) s).rails = s.rails.map f :=
    rails_ext (s := { s with rails := s.rails.map f }) fun r =>
      (rail_forRails_modRail f s r).trans (rail_mapRails f s r).symm
  have rest : forRails (fun r u => u.modRail r f) s =
    { s with rails := (forRails (fun r u => u.modRail r f) s).rails } := rfl
  rw [rest, rails]

/-- The state in which the second has passed and the dark rails are tallied, before night is re-evaluated. -/
def secondTold (s : State) : State :=
  { s with clock := s.clock.endSecond, rails := s.rails.map Rail.tallySecond }

theorem rail_secondTold (s : State) (r : RailId) : (secondTold s).rail r = (s.rail r).tallySecond :=
  Vector.getElem_map ..

theorem secondPasses_eq (s : State) : secondPasses s = renight (night s) .window (secondTold s) := by
  rw [secondPasses, forRails_modRail_eq]
  rfl

theorem secondPasses_cascade (s : State) : Cascade (secondTold s) (secondPasses s) := by
  rw [secondPasses_eq]
  exact (renight_moves _ _ _).cascade

theorem renight_of_same {cause : NightEnd} {before : Bool} {s : State} (h : night s = before) :
    renight before cause s = s := by
  rw [renight, h]
  cases before <;> rfl

/-- Settles O24: the clock and the tallies are written at once, night is re-evaluated on that state, and what a change of
night brings about leaves clock, tallies, lines, banks, alerts and site port as they are. -/
theorem secondsEventCounts : Obligations.SecondsEventCounts := by
  intro s
  have cascade := secondPasses_cascade s
  refine ⟨secondPasses s, rfl, ?_, cascade.clock, fun r => ?_, fun same => ?_, cascade.inputs, cascade.banks,
    cascade.alerts, cascade.mgmt⟩
  · rw [secondPasses_eq, secondTold, funext tallySecond_eq]
    rfl
  · have tally := congrArg (fun x => x.2.2.2.2.2.2.1) (cascade.rails r)
    exact tally.trans (congrArg Rail.offSeconds ((rail_secondTold s r).trans (tallySecond_eq _)))
  · have unchanged : secondPasses s = secondTold s := by
      rw [secondPasses_eq]
      refine renight_of_same (Eq.trans ?_ same)
      rw [cascade.clock]
      rfl
    rw [unchanged]
    exact ⟨rfl, rfl, rfl, rfl⟩

end Sys2Proof.Machine
end

/-! # CLEAR_FAULT of a rail

The carriers faulted by the rail are taken one by one. The first of them calls the rail to the ramp; from then on the
rail waits or ramps, and each further one only enters WAKING. -/

section

namespace Sys2Proof.Machine

/-- A carrier that the fault of rail r took down. -/
def Struck (r : RailId) (s : State) (n : Site) : Prop :=
  (s.carrier n).provisioned = true ∧ (s.carrier n).rail = r ∧ (s.carrier n).power = .faulted ∧
    (s.carrier n).cause = some .rail

/-- One turn of the loop: a carrier that the fault took down enters WAKING (R122). -/
def rouse (r : RailId) (n : Site) (s : State) : State :=
  if (s.carrier n).provisioned && (s.carrier n).rail == r && (s.carrier n).power == .faulted
      && (s.carrier n).cause == some .rail then
    enterWaking n .urgent s
  else s

/-- The rail's own part of the request. -/
def clearedRail (r : RailId) (s : State) : State := s.modRail r fun x => { x with state := .off, retry := false }

/-- What a need in WAKING may write: records, rails and ramp queue. -/
structure OnRails (s u : State) : Prop where
  ports : u.ports = s.ports
  stack : u.stack = s.stack
  alerts : u.alerts = s.alerts
  clock : u.clock = s.clock
  inputs : u.inputs = s.inputs
  banks : u.banks = s.banks

/-- The rail is called to the ramp: it waits in the urgent part, or is granted the free slot. -/
structure Called (r : RailId) (s u : State) : Prop where
  waits : s.ramp.slot ≠ none →
    (u.rail r).state = .queued ∧ u.ramp = { s.ramp with urgent := s.ramp.urgent ++ [r] }
  ramps : s.ramp.slot = none → (u.rail r).state = .ramping ∧ u.ramp = ⟨[], [], some r⟩

/-- What the loop has made of the state s so far. -/
structure Clearing (r : RailId) (s u : State) : Prop where
  records : ∀ n, u.carrier n = s.carrier n ∨ Struck r s n ∧ u.carrier n = (s.carrier n).rising
  frame : OnRails s u
  others : ∀ q, q ≠ r → u.rail q = s.rail q
  retry : (u.rail r).retry = false
  phase : u = clearedRail r s ∨ (∃ n, Struck r s n) ∧ Called r s u

section

variable {r : RailId} {n m : Site} {s u v : State}

theorem OnRails.trans (h : OnRails s u) (k : OnRails u v) : OnRails s v :=
  ⟨k.ports.trans h.ports, k.stack.trans h.stack, k.alerts.trans h.alerts, k.clock.trans h.clock,
    k.inputs.trans h.inputs, k.banks.trans h.banks⟩

theorem onRails_grant (s : State) : OnRails s (grant s) := by
  rcases grant_cases s with ⟨r, _, -, -, e⟩ | ⟨e, -⟩ <;> rw [e] <;> exact ⟨rfl, rfl, rfl, rfl, rfl, rfl⟩

theorem onRails_queueRail (r : RailId) (cls : RampClass) (s : State) : OnRails s (queueRail r cls s) := by
  have joined : OnRails s (joinRamp r cls (s.modRail r fun x => { x with state := .queued })) := by
    cases cls <;> exact ⟨rfl, rfl, rfl, rfl, rfl, rfl⟩
  exact joined.trans (onRails_grant _)

theorem rouse_of_struck (h : Struck r s n) : rouse r n s = enterWaking n .urgent s := by
  obtain ⟨provisioned, rail, power, cause⟩ := h
  rw [rouse, provisioned, rail, power, cause]
  simp

theorem rouse_of_not_struck (h : ¬ Struck r s n) : rouse r n s = s := by
  refine if_neg ?_
  simpa only [Bool.and_eq_true, beq_iff_eq, and_assoc, Struck] using h

theorem not_struck_of_rising (h : u.carrier n = (s.carrier n).rising) : ¬ Struck r u n := by
  rintro ⟨-, -, power, -⟩
  rw [h] at power
  cases power

/-- On a rail called already, one more carrier only enters WAKING. -/
theorem enterWaking_called (free : RampOk s) (fault : (s.rail r).state = .fault) (h : Called r s u)
    (hr : (u.carrier n).rail = r) : enterWaking n .urgent u = u.modCarrier n Carrier.rising := by
  obtain ⟨-, -, rails⟩ := free
  obtain ⟨queued, -⟩ := rails r
  by_cases slot : s.ramp.slot = none
  · exact enterWaking_of_waiting (.inl (by rw [hr]; exact (h.ramps slot).1))
  · obtain ⟨state, ramp⟩ := h.waits slot
    have out : r ∉ (u.modCarrier n Carrier.rising).ramp.ordinary := by
      intro hm
      change r ∈ u.ramp.ordinary at hm
      rw [ramp] at hm
      have waits := queued.1 (mem_queue_of_mem_ordinary hm)
      rw [fault] at waits
      cases waits
    rw [enterWaking_of_queued (by rw [hr]; exact state), hr, raiseRail_of_low (.inr out)]

/-- The ramp is idle where its slot is free. -/
theorem ramp_eq_of_free (h : RampOk s) (slot : s.ramp.slot = none) : s.ramp = ⟨[], [], none⟩ := by
  obtain ⟨-, free, -⟩ := h
  obtain ⟨urgent, ordinary⟩ := List.append_eq_nil_iff.1 (free slot)
  calc
    s.ramp = ⟨s.ramp.urgent, s.ramp.ordinary, s.ramp.slot⟩ := rfl
    _ = ⟨[], [], none⟩ := by rw [urgent, ordinary, slot]

/-- The first carrier calls the rail, which has been switched off. -/
theorem called_queueRail (h : RampOk s) (ramp : u.ramp = s.ramp) : Called r s (queueRail r .urgent u) := by
  refine ⟨fun slot => ?_, fun slot => ?_⟩
  · rw [queueRail_of_held (by rw [ramp]; exact slot), rail_joinRamp, rail_modRail_same]
    exact ⟨rfl, by rw [← ramp]; rfl⟩
  · obtain ⟨-, ramp, state, -, -⟩ := queueRail_idle (r := r) (cls := .urgent) (ramp.trans (ramp_eq_of_free h slot))
    exact ⟨state, ramp⟩

theorem queueRail_others (h : RampOk s) (ramp : u.ramp = s.ramp) {q : RailId} (hq : q ≠ r) :
    (queueRail r .urgent u).rail q = u.rail q := by
  by_cases slot : s.ramp.slot = none
  · obtain ⟨-, -, -, -, others⟩ := queueRail_idle (r := r) (cls := .urgent) (ramp.trans (ramp_eq_of_free h slot))
    exact others q hq
  · rw [queueRail_of_held (by rw [ramp]; exact slot), rail_joinRamp, rail_modRail_ne u _ hq]

theorem retry_queueRail (r : RailId) (cls : RampClass) (s : State) :
    ((queueRail r cls s).rail r).retry = (s.rail r).retry :=
  congrArg (fun x => x.2.2.2.2.1) ((queueRail_cascade r cls s).rails r)

/-- A carrier that the fault took down takes its turn. -/
theorem Clearing.struck (free : RampOk s) (fault : (s.rail r).state = .fault) (h : Clearing r s u)
    (hn : Struck r u n) : Clearing r s (enterWaking n .urgent u) ∧
      ∀ m, (enterWaking n .urgent u).carrier m = (u.modCarrier n Carrier.rising).carrier m := by
  obtain ⟨records, frame, others, retry, phase⟩ := h
  have same : u.carrier n = s.carrier n := (records n).resolve_right fun k => not_struck_of_rising k.2 hn
  have struck : Struck r s n := by rw [Struck, ← same]; exact hn
  have on : (u.carrier n).rail = r := hn.2.1
  have risen : ∀ m, (u.modCarrier n Carrier.rising).carrier m = s.carrier m ∨
      Struck r s m ∧ (u.modCarrier n Carrier.rising).carrier m = (s.carrier m).rising := by
    intro m
    rw [carrier_modCarrier]
    split
    · rename_i hm; subst hm; exact .inr ⟨struck, by rw [same]⟩
    · exact records m
  have written : OnRails u (u.modCarrier n Carrier.rising) := ⟨rfl, rfl, rfl, rfl, rfl, rfl⟩
  rcases phase with cleared | ⟨-, called⟩
  · have off : (u.rail (u.carrier n).rail).state = .off := by rw [on, cleared, clearedRail, rail_modRail_same]
    have ramp : (u.modCarrier n Carrier.rising).ramp = s.ramp := by rw [cleared]; rfl
    rw [enterWaking_of_off off, on]
    have carriers := (queueRail_apart r .urgent (u.modCarrier n Carrier.rising)).carriers
    have record (m : Site) : (queueRail r .urgent (u.modCarrier n Carrier.rising)).carrier m =
        (u.modCarrier n Carrier.rising).carrier m := by
      rw [State.carrier, carriers]; rfl
    refine ⟨⟨fun m => by rw [record]; exact risen m, (frame.trans written).trans (onRails_queueRail _ _ _),
      fun q hq => ?_, ?_, .inr ⟨⟨n, struck⟩, called_queueRail free ramp⟩⟩, record⟩
    · rw [queueRail_others free ramp hq]
      exact others q hq
    · rw [retry_queueRail]
      exact retry
  · rw [enterWaking_called free fault called on]
    exact ⟨⟨risen, frame.trans written, others, retry, .inr ⟨⟨n, struck⟩, called.waits, called.ramps⟩⟩, fun _ => rfl⟩

theorem Clearing.turn (free : RampOk s) (fault : (s.rail r).state = .fault) (h : Clearing r s u) (n : Site) :
    Clearing r s (rouse r n u) := by
  by_cases hn : Struck r u n
  · rw [rouse_of_struck hn]
    exact (h.struck free fault hn).1
  · rw [rouse_of_not_struck hn]
    exact h

/-- After the turn of a carrier the fault does not hold it down any more. -/
theorem Clearing.made (free : RampOk s) (fault : (s.rail r).state = .fault) (h : Clearing r s u) (n : Site) :
    ¬ Struck r (rouse r n u) n := by
  by_cases hn : Struck r u n
  · rw [rouse_of_struck hn]
    refine not_struck_of_rising (s := u) ?_
    rw [(h.struck free fault hn).2, carrier_modCarrier_same]
  · rwa [rouse_of_not_struck hn]

/-- The turn of another carrier does not change that. -/
theorem Clearing.kept (free : RampOk s) (fault : (s.rail r).state = .fault) (h : Clearing r s u) (m : Site)
    (hn : ¬ Struck r u n) : ¬ Struck r (rouse r m u) n := by
  by_cases hm : Struck r u m
  · have ne : n ≠ m := fun e => hn (e ▸ hm)
    rw [rouse_of_struck hm, Struck, (h.struck free fault hm).2, carrier_modCarrier_ne u _ ne]
    exact hn
  · rwa [rouse_of_not_struck hm]

/-- The state in which a taken CLEAR_FAULT of a rail ends. -/
def roused (r : RailId) (s : State) : State := forList allSites (rouse r) (clearedRail r s)

theorem clearing_clearedRail (r : RailId) (s : State) : Clearing r s (clearedRail r s) := by
  refine ⟨fun _ => .inl rfl, ⟨rfl, rfl, rfl, rfl, rfl, rfl⟩, fun q hq => rail_modRail_ne s _ hq, ?_, .inl rfl⟩
  rw [clearedRail, rail_modRail_same]

theorem clearing_roused (free : RampOk s) (fault : (s.rail r).state = .fault) : Clearing r s (roused r s) :=
  forList_induction (Clearing r s) (rouse r) (fun n _ h => h.turn free fault n) allSites _ (clearing_clearedRail r s)

theorem not_struck_roused (free : RampOk s) (fault : (s.rail r).state = .fault) (n : Site) :
    ¬ Struck r (roused r s) n :=
  forList_reaches (P := Clearing r s) (Q := fun u => ¬ Struck r u n) (x := n) (fun m _ h => h.turn free fault m)
    (fun _ h => h.made free fault n) (fun m _ h => h.kept free fault m) allSites _ (clearing_clearedRail r s)
    (.inl (mem_allSites n))

theorem exec_clearFaultRail (rail : Nat) (s : State) :
    exec (.clearFaultRail rail) s = .next (respond (clearFaultRailRule rail s)) := rfl

theorem clearFaultRailRule_val (r : RailId) (s : State) : clearFaultRailRule r.val s =
    if (s.rail r).state ≠ .fault then refuse .wrongState s else answerOk (roused r s) := by
  rw [clearFaultRailRule, railOf_val]
  simp only [bne_iff_ne]
  rfl

end

/-- Settles O16: the loop's invariant gives each record and the rail; no carrier that the fault took down is left. -/
theorem clearFaultRailWakes : Obligations.ClearFaultRailWakes := by
  intro rail s
  refine ⟨fun h => ?_, ?_⟩
  · rw [exec_clearFaultRail, clearFaultRailRule, railOf_of_le h]
  rintro r rfl
  intro hit
  rw [exec_clearFaultRail, clearFaultRailRule_val]
  split
  · rfl
  rename_i fault
  rw [not_not] at fault
  intro free
  obtain ⟨records, frame, others, retry, phase⟩ := clearing_roused free fault
  have awake := not_struck_roused free fault
  have called : (∃ n, hit n) → Called r s (roused r s) := by
    rintro ⟨n, hn⟩
    refine (phase.resolve_left fun same => awake n ?_).2
    rw [same]
    exact hn
  refine ⟨roused r s, rfl, fun n => ⟨fun hn => ?_, fun hn => ?_⟩, fun none => ?_, fun some slot => ?_,
    fun some slot => ?_, retry, others, frame.ports, frame.stack, frame.alerts, frame.clock, frame.inputs, frame.banks⟩
  · refine ((records n).resolve_left fun same => awake n ?_).2
    rw [Struck, same]
    exact hn
  · exact (records n).resolve_right fun k => hn k.1
  · exact phase.resolve_right fun ⟨⟨n, hn⟩, _⟩ => none n hn
  · exact (called some).waits slot
  · obtain ⟨state, ramp⟩ := (called some).ramps slot
    exact ⟨state, by rw [ramp]⟩

end Sys2Proof.Machine
end

/-! # The settle expiry

A good sample with a need brings up every carrier that waits on the rail: each is ACTIVE after its own turn of the loop,
and until then and after it the other turns leave it alone. -/

section

namespace Sys2Proof.Machine

section

variable {r : RailId} {n m : Site} {c : Carrier} {s u v : State}

/-! ### The release of the slot -/

theorem rail_releaseSlot (out : r ∉ s.ramp.queue) : (releaseSlot s).rail r = s.rail r := by
  rw [releaseSlot]
  rcases grant_cases { s with ramp := { s.ramp with slot := none } } with ⟨q, rest, -, head, e⟩ | ⟨e, -⟩ <;> rw [e]
  · have ne : r ≠ q := by
      rintro rfl
      refine out ?_
      have head : s.ramp.queue = r :: rest := head
      rw [head]
      exact List.mem_cons_self
    exact grantTo_rail_ne _ ne
  · rfl

/-- The head of the queue holds the slot that was released, and the others move up. -/
theorem ramp_releaseSlot (once : s.ramp.queue.Nodup) :
    (releaseSlot s).ramp.slot = s.ramp.queue.head? ∧ (releaseSlot s).ramp.queue = s.ramp.queue.tail := by
  rw [releaseSlot]
  rcases grant_cases { s with ramp := { s.ramp with slot := none } } with ⟨q, rest, -, head, e⟩ | ⟨e, empty⟩ <;> rw [e]
  · have waits : s.ramp.queue = q :: rest := head
    rw [waits] at once
    rw [queue_grantTo head (List.nodup_cons.1 once).1, waits]
    exact ⟨rfl, rfl⟩
  · have empty : s.ramp.queue = [] := empty rfl
    rw [empty]
    exact ⟨rfl, empty⟩

theorem stack_releaseSlot (s : State) : (releaseSlot s).stack = s.stack :=
  stack_grant { s with ramp := { s.ramp with slot := none } }

/-! ### A carrier that the scheduler leaves alone -/

/-- A record with which a carrier is not ripe. -/
def Carrier.Unripe (c : Carrier) : Prop := c.power ≠ .active ∨ c.load = none

/-- Carrier n stands outside the offer queues with the record c, but that its ripe time may be absent already. -/
structure Abides (n : Site) (c : Carrier) (u : State) : Prop where
  record : u.carrier n = c ∨ u.carrier n = { c with ripeTime := none }
  unqueued : Unqueued u n

theorem Abides.not_ripe (h : Abides n c u) (hc : c.Unripe) : ripe u n = false := by
  refine not_ripe_of ?_
  rcases h.record with e | e <;> rw [e] <;> rcases hc with hp | hl
  · exact .inr (.inl hp)
  · exact .inr (.inr (.inl hl))
  · exact .inr (.inl hp)
  · exact .inr (.inr (.inl hl))

theorem Abides.power (h : Abides n c u) : (u.carrier n).power = c.power := by
  rcases h.record with e | e <;> rw [e]

theorem Abides.of_record (h : Abides n c u) (same : v.carrier n = u.carrier n) (out : Unqueued v n) : Abides n c v :=
  ⟨by rw [same]; exact h.record, out⟩

/-- The scheduler leaves a carrier alone that is neither ripe nor queued. -/
theorem Abides.scheduler (h : Abides n c u) (hc : c.Unripe) (moves : SchedulerMoves u v) : Abides n c v := by
  refine run_keeps (fun w x m hw => ?_) moves h
  have unripe := hw.not_ripe hc
  refine ⟨?_, (ReportMove.schedules m).keeps_unqueued hw.unqueued unripe⟩
  rcases m.record n with ⟨t, kept | cleared | ripe, e⟩ | ⟨⟨q, queued⟩, -⟩
  · rw [e, kept]; exact hw.record
  · rw [e, cleared]
    refine .inr ?_
    rcases hw.record with e | e <;> rw [e]
  · rw [unripe] at ripe; cases ripe
  · exact absurd queued (hw.unqueued q)

theorem Abides.post (h : Abides n c u) (hc : c.Unripe) (t : Tenant) (x : Notice) : Abides n c (Machine.post t x u) :=
  h.of_record rfl ((ReportMove.notice t x).keeps_unqueued h.unqueued (h.not_ripe hc))

/-- What follows the carrier's own entry to ACTIVE. -/
theorem abides_powered (hc : c.Unripe) (h : Abides n c (enterActive m u)) : Abides n c (powered m u) := by
  rw [powered]
  split
  · exact (h.post hc _ _).scheduler hc (reevalDependents_schedulerMoves m _)
  · exact h.post hc _ _

/-- Another carrier becomes ACTIVE. -/
theorem Abides.powered_ne (h : Abides n c u) (hc : c.Unripe) (ne : n ≠ m) : Abides n c (powered m u) :=
  abides_powered hc (h.of_record (carrier_enterActive_ne u ne) fun w hw => h.unqueued w (mem_offerQueue_of_enterActive hw))

theorem returned_congr (same : Cascade s u) (c : Carrier) : c.returned u = c.returned s := by
  have now : u.now = s.now := congrArg Clock.now same.clock
  rw [Carrier.returned, Carrier.returned, freshMinAwake, freshMinAwake, same.bank, now]

/-- The carrier itself becomes ACTIVE. -/
theorem Abides.powered_same (h : Abides n c u) : Abides n (c.returned u) (powered n u) := by
  refine abides_powered (.inr rfl) ⟨.inl ?_, fun w hw => h.unqueued w (mem_offerQueue_of_enterActive hw)⟩
  have entered : (enterActive n u).carrier n = (u.carrier n).returned u := by
    rw [enterActive_eq, carrier_modCarrier_same, carrier_modPort]
  rw [entered]
  rcases h.record with e | e <;> rw [e]
  rfl

/-! ### The loop over the carriers of the rail -/

/-- Carrier n waits for its turn with the record c, or has had it. -/
structure AtTurn (n : Site) (c : Carrier) (s u : State) : Prop where
  cascade : Cascade s u
  record : Abides n c u ∨ Abides n (c.returned s) u

/-- A carrier that does not wait, or any other than the one whose turn it is, abides. -/
theorem Abides.turn (h : Abides n c u) (hc : c.Unripe) (hm : n ≠ m ∨ c.power ≠ .waking) :
    Abides n c (powerTurn r m u) := by
  rcases powerTurn_cases r m u with ⟨-, waking, e⟩ | ⟨-, e⟩ <;> rw [e]
  · refine h.powered_ne hc fun same => ?_
    subst same
    rw [h.power] at waking
    exact hm.elim (fun ne => ne rfl) fun still => still waking
  · exact h

theorem unripe_returned (c : Carrier) (s : State) : (c.returned s).Unripe := .inr rfl

/-- The carrier's own turn makes it ACTIVE. -/
theorem Abides.own_turn (h : Abides n c u) (on : On r n u) (waking : c.power = .waking) :
    Abides n (c.returned u) (powerTurn r n u) := by
  rcases powerTurn_cases r n u with ⟨-, -, e⟩ | ⟨off, -⟩
  · rw [e]
    exact h.powered_same
  · exact absurd ⟨on, h.power.trans waking⟩ off

theorem AtTurn.turn (h : AtTurn n c s u) (on : On r n s) (waking : c.power = .waking) (m : Site) :
    AtTurn n c s (powerTurn r m u) := by
  obtain ⟨cascade, record⟩ := h
  have unripe : c.Unripe := .inl (by rw [waking]; exact nofun)
  refine ⟨cascade.trans (powerTurn_eases r m u).moves.cascade, ?_⟩
  rcases record with waits | active
  · by_cases ne : n = m
    · subst ne
      have own := waits.own_turn ((on_of_cascade cascade).2 on) waking
      rw [returned_congr cascade] at own
      exact .inr own
    · exact .inl (waits.turn unripe (.inl ne))
  · exact .inr (active.turn (unripe_returned c s) (.inr nofun))

theorem AtTurn.made (h : AtTurn n c s u) (on : On r n s) (waking : c.power = .waking) :
    Abides n (c.returned s) (powerTurn r n u) := by
  obtain ⟨cascade, waits | active⟩ := h
  · have own := waits.own_turn ((on_of_cascade cascade).2 on) waking
    rwa [returned_congr cascade] at own
  · exact active.turn (unripe_returned c s) (.inr nofun)

/-- After the loop every carrier that waited on the rail is ACTIVE (R101). -/
theorem carrier_powerCarriers (out : Unqueued s n) (on : On r n s) (waking : (s.carrier n).power = .waking) :
    (powerCarriers r s).carrier n = (s.carrier n).returned s := by
  have active : Abides n ((s.carrier n).returned s) (powerCarriers r s) :=
    forList_reaches (P := AtTurn n (s.carrier n) s) (x := n) (fun m _ h => h.turn on waking m)
      (fun _ h => h.made on waking) (fun m _ _ h => h.turn (unripe_returned _ s) (.inr nofun)) allSites s
      ⟨.refl s, .inl ⟨.inl rfl, out⟩⟩ (.inl (mem_allSites n))
  rcases active.record with e | e <;> rw [e]
  rfl

/-! ### Samples -/

theorem exec_settleExpiry (r : RailId) (level : Bool) (s : State) :
    exec (.settleExpiry r level) s = .next (if settleDue s r then settleExpires r level s else s) := rfl

/-- A fall told at this moment makes every sample low (R123). -/
theorem sampledPowerGood_of_fallen (fallen : (s.rail r).toldAt = some s.now ∧ (s.rail r).powerGood = false)
    (level : Bool) : sampledPowerGood s r level = false := by
  simp [sampledPowerGood, toldNow, fallen]

theorem sampledPowerGood_true (standing : ¬ ((s.rail r).toldAt = some s.now ∧ (s.rail r).powerGood = false)) :
    sampledPowerGood s r true = true := by
  simpa [sampledPowerGood, toldNow, imp_iff_not_or] using standing

theorem exec_settleExpiry_of_fallen (fallen : (s.rail r).toldAt = some s.now ∧ (s.rail r).powerGood = false) :
    exec (.settleExpiry r true) s = exec (.settleExpiry r false) s := by
  simp only [exec_settleExpiry, settleExpires, sampledPowerGood_of_fallen fallen]

theorem settleExpires_good (state : (s.rail r).state = .ramping)
    (standing : ¬ ((s.rail r).toldAt = some s.now ∧ (s.rail r).powerGood = false)) :
    settleExpires r true s = rampSucceeds r (tellPowerGood r true s) := by
  rw [settleExpires, if_pos (by rw [state, beq_self_eq_true]), sampledPowerGood_true standing, if_pos rfl]

theorem settleExpires_low (state : (s.rail r).state = .ramping) :
    settleExpires r false s = rampFails r (tellPowerGood r false s) := by
  rw [settleExpires, if_pos (by rw [state, beq_self_eq_true])]
  rfl

/-- The rail after a good sample, before its state is decided. -/
def Rail.good (now : Time) (x : Rail) : Rail :=
  { x with powerGood := true, toldAt := some now, settleTimer := none, retry := false }

/-- The rail as a good sample with a need brings it up. -/
def broughtUp (r : RailId) (s : State) : State := s.modRail r fun x => { x.good s.now with state := .on }

theorem rampFails_first (h : (s.rail r).retry = false) : rampFails r s = releaseSlot (s.modRail r fun x =>
    { x with state := .retryWait, settleTimer := none, retry := true, retryTimer := some s.now }) := by
  rw [rampFails, if_neg (by rw [h]; exact nofun)]

theorem rampFails_again (h : (s.rail r).retry = true) : rampFails r s = releaseSlot (enterFault r s) := by
  rw [rampFails, if_pos h]

theorem rampSucceeds_unneeded (unneeded : needCount s r = 0) :
    rampSucceeds r (tellPowerGood r true s) = releaseSlot (enterHold r (s.modRail r (Rail.good s.now))) := by
  rw [rampSucceeds, tellPowerGood, modRail_modRail]
  exact congrArg releaseSlot (if_pos unneeded)

theorem rampSucceeds_needed (needed : needCount s r ≠ 0) : rampSucceeds r (tellPowerGood r true s) =
    releaseSlot (powerCarriers r (broughtUp r s)) := by
  rw [rampSucceeds, tellPowerGood, modRail_modRail]
  refine congrArg releaseSlot ((if_neg needed).trans ?_)
  rw [modRail_modRail]
  rfl

end

/-- The rail and the slot after a good sample with a need: the grant passes the rail by. -/
theorem settled_needed {r : RailId} {s v t : State} (hv : v = powerCarriers r (broughtUp r s)) (ht : t = releaseSlot v)
    (queues : QueuesOk s) (ramp : RampOk s) (state : (s.rail r).state = .ramping) :
    t.rail r = { (s.rail r).good s.now with state := .on } ∧
      (∀ n, (s.carrier n).provisioned = true → (s.carrier n).rail = r → (s.carrier n).power = .waking →
        t.carrier n = (s.carrier n).returned s) ∧
      t.ramp.slot = s.ramp.queue.head? ∧ t.ramp.queue = s.ramp.queue.tail ∧ t.stack = s.stack := by
  have lit := (powerCarriers_eases r (broughtUp r s)).rails
  rw [← hv] at lit
  obtain ⟨rails, same, stack⟩ := lit
  have same : v.ramp = s.ramp := same
  obtain ⟨nodup, -, places⟩ := ramp
  have out : r ∉ v.ramp.queue := by
    rw [same]
    intro hm
    have waits := (places r).1.1 hm
    rw [state] at waits
    cases waits
  obtain ⟨slot, queue⟩ := ramp_releaseSlot (s := v) (by rw [same]; exact nodup)
  rw [ht]
  refine ⟨?_, fun n provisioned on waking => ?_, by rw [slot, same], by rw [queue, same],
    (stack_releaseSlot v).trans stack⟩
  · rw [rail_releaseSlot out, State.rail, rails]
    exact rail_modRail_same s r _
  · have unqueued : Unqueued (broughtUp r s) n := queues.not_mem_of_power (by rw [waking]; exact nofun)
    rw [State.carrier, (releaseSlot_apart v).carriers, hv]
    exact carrier_powerCarriers unqueued ⟨provisioned, on⟩ waking

/-- Settles O18, sample by sample. -/
theorem settleExpirySamples : Obligations.SettleExpirySamples := by
  intro r s good low fallen
  refine ⟨fun level due => ?_, exec_settleExpiry_of_fallen, fun due state => ⟨?_, ?_, ?_, ?_, ?_⟩⟩
  · rw [exec_settleExpiry, due]
    rfl
  · intro standing unneeded grace
    have grace : (bank (s.modRail r (Rail.good s.now))).railGrace ≠ 0 := grace
    rw [exec_settleExpiry, if_pos due, settleExpires_good state standing, rampSucceeds_unneeded unneeded,
      enterHold_write_of_pos grace, modRail_modRail]
    rfl
  · intro standing unneeded grace dark
    have grace : (bank (s.modRail r (Rail.good s.now))).railGrace = 0 := grace
    rw [exec_settleExpiry, if_pos due, settleExpires_good state standing, rampSucceeds_unneeded unneeded,
      enterHold, if_pos grace, modRail_modRail, graceTest_modRail (by exact fun _ => rfl)]
    refine congrArg (fun u => Host.Outcome.next (releaseSlot u)) (modRail_congr ?_)
    by_cases h : sleepersOn s r = 0 ∨ night s = true ∧ (s.rail r).breakEven ≤ remaining s
    · simp only [if_pos h, dark, decide_eq_true h]
      rfl
    · simp only [if_neg h, dark, decide_eq_false h]
      rfl
  · intro standing needed queues ramp
    rw [exec_settleExpiry, if_pos due, settleExpires_good state standing, rampSucceeds_needed needed]
    exact ⟨_, rfl, settled_needed rfl rfl queues ramp state⟩
  · intro first
    have afresh : ((tellPowerGood r false s).rail r).retry = false := by rw [tellPowerGood, rail_modRail_same]; exact first
    rw [exec_settleExpiry, if_pos due, settleExpires_low state, rampFails_first afresh, tellPowerGood,
      modRail_modRail]
    rfl
  · intro second
    have again : ((tellPowerGood r false s).rail r).retry = true := by rw [tellPowerGood, rail_modRail_same]; exact second
    rw [exec_settleExpiry, if_pos due, settleExpires_low state, rampFails_again again]
    rfl

end Sys2Proof.Machine
end

/-! # Carriers out of service while the rails' consequences are played out

What a carrier out of service shows to its tenants does not change: its power state, its cause and the notices about
it. -/

section

namespace Sys2Proof.Machine

/-- The state notices about carrier n in a tenant's queue. -/
def notesAbout (n : Site) (u : Tenant) (s : State) : List Notice :=
  (s.port u).notices.filter fun x => x.about == some n

/-- Carrier n is out of service, in no offer queue, and the notices about it are those of q. -/
structure Dormant (n : Site) (p : Power) (k : Option FaultCause) (q : Tenant → List Notice) (s : State) : Prop where
  idle : p.inService = false
  power : (s.carrier n).power = p
  cause : (s.carrier n).cause = k
  unqueued : Unqueued s n
  notes : ∀ u, notesAbout n u s = q u

section

variable {n m : Site} {p : Power} {k : Option FaultCause} {q : Tenant → List Notice} {s t : State}

/-! ### Notices -/

theorem filter_joinNotices_self {l : List Notice} {x : Notice} (hx : x.about = some n) :
    (joinNotices l x).filter (fun y => y.about == some n) = [x] := by
  rw [joinNotices, hx]
  simp [hx]

theorem filter_joinNotices_other {l : List Notice} {x : Notice} (hx : x.about ≠ some n) :
    (joinNotices l x).filter (fun y => y.about == some n) = l.filter fun y => y.about == some n := by
  rw [joinNotices]
  split
  · rename_i m hm
    have ne : some n ≠ some m := fun e => hx (hm.trans e.symm)
    have lone : [x].filter (fun y => y.about == some n) = [] := by simp [hx]
    rw [List.filter_append, lone, List.append_nil, List.filter_filter]
    refine List.filter_congr fun y _ => ?_
    by_cases hy : y.about = some n <;> simp [hy]
    exact fun e => ne (congrArg some e)
  · simp [hx]

theorem notesAbout_post_self {u : Tenant} {x : Notice} (hx : x.about = some n) (hl : (s.port u).link ≠ .disabled) :
    notesAbout n u (post u x s) = [x] := by
  rw [notesAbout, notices_post_same, if_neg hl, filter_joinNotices_self hx]

theorem notesAbout_post_other {u v : Tenant} {x : Notice} (hx : x.about ≠ some n) :
    notesAbout n u (post v x s) = notesAbout n u s := by
  by_cases hu : u = v
  · subst hu
    rw [notesAbout, notices_post_same]
    split
    · rfl
    · exact filter_joinNotices_other hx
  · rw [notesAbout, port_post_ne x s hu, notesAbout]

/-! ### Elementary changes -/

/-- Nothing changes that the carrier shows, and it joins no queue. -/
theorem Dormant.of_parts (h : Dormant n p k q s) (power : (t.carrier n).power = (s.carrier n).power)
    (cause : (t.carrier n).cause = (s.carrier n).cause) (queues : ∀ u, n ∈ (t.port u).offerQueue → n ∈ (s.port u).offerQueue)
    (notices : ∀ u, (t.port u).notices = (s.port u).notices) : Dormant n p k q t where
  idle := h.idle
  power := power.trans h.power
  cause := cause.trans h.cause
  unqueued u hu := h.unqueued u (queues u hu)
  notes u := by rw [notesAbout, notices, ← notesAbout, h.notes]

theorem Dormant.ne (h : Dormant n p k q s) (hm : (s.carrier m).power.inService = true) : n ≠ m := by
  rintro rfl
  rw [h.power, h.idle] at hm
  cases hm

theorem Dormant.apart (h : Dormant n p k q s) (g : Apart s t) : Dormant n p k q t := by
  have same : t.carrier n = s.carrier n := by rw [State.carrier, g.carriers]; rfl
  refine h.of_parts (by rw [same]) (by rw [same]) (fun u => ?_) fun u => ?_ <;> rw [port_of_ports g.ports]
  exact id

theorem Dormant.modCarrier (h : Dormant n p k q s) (ne : n ≠ m) (f : Carrier → Carrier) :
    Dormant n p k q (s.modCarrier m f) := by
  have same := carrier_modCarrier_ne s f ne
  exact h.of_parts (by rw [same]) (by rw [same]) (fun _ => id) fun _ => rfl

theorem Dormant.stack (h : Dormant n p k q s) (l : List Site) : Dormant n p k q { s with stack := l } :=
  ⟨h.idle, h.power, h.cause, h.unqueued, h.notes⟩

/-- A notice about another carrier is posted. -/
theorem Dormant.post (h : Dormant n p k q s) (ne : n ≠ m) (u : Tenant) {x : Notice} (hx : x.about = some m := by rfl) :
    Dormant n p k q (post u x s) := by
  have other : x.about ≠ some n := by
    rw [hx]
    exact fun e => ne (Option.some.inj e).symm
  exact ⟨h.idle, h.power, h.cause, fun w hw => h.unqueued w (by rwa [offerQueue_post] at hw),
    fun w => (notesAbout_post_other other).trans (h.notes w)⟩

theorem notices_unqueue (m : Site) (s : State) (u : Tenant) : ((unqueue m s).port u).notices = (s.port u).notices := by
  rw [unqueue, port_modCarrier, port_modPort]
  split <;> rfl

theorem notices_joinQueue (m : Site) (s : State) (u : Tenant) :
    ((joinQueue m s).port u).notices = (s.port u).notices := by
  rw [joinQueue, port_modCarrier, port_modPort]
  split <;> rfl

theorem Dormant.unqueue (h : Dormant n p k q s) (m : Site) : Dormant n p k q (unqueue m s) := by
  refine h.of_parts ?_ ?_ (fun _ => mem_offerQueue_of_unqueue) (notices_unqueue m s) <;>
    rw [carrier_unqueue] <;> split <;> rfl

theorem Dormant.enterActive (h : Dormant n p k q s) (ne : n ≠ m) : Dormant n p k q (enterActive m s) := by
  rw [Machine.enterActive]
  exact (h.modCarrier ne _).unqueue m

/-! ### The scheduler and the exchange -/

theorem Dormant.offers {u : Tenant} {rest : List Site} (h : Dormant n p k q s)
    (head : (s.port u).offerQueue = m :: rest) :
    Dormant n p k q (issueOffer m (s.modPort u fun x => { x with offerQueue := rest })) := by
  have ne : n ≠ m := by
    rintro rfl
    exact h.unqueued u (head ▸ List.mem_cons_self)
  have left : Dormant n p k q (s.modPort u fun x => { x with offerQueue := rest }) := by
    refine h.of_parts rfl rfl (fun w hw => ?_) fun w => ?_
    · rw [port_modPort] at hw
      split at hw
      · rename_i hu
        rw [hu, head]
        exact List.mem_cons_of_mem m hw
      · exact hw
    · rw [port_modPort]
      split <;> rfl
  rw [issueOffer_eq]
  exact (left.modCarrier ne _).post ne _

theorem Dormant.dispatch (h : Dormant n p k q s) (u : Tenant) : Dormant n p k q (dispatch u s) :=
  dispatchUpTo_keeps (fun _ _ _ head hv => hv.offers head) _ s h

theorem Dormant.reeval (h : Dormant n p k q s) (m : Site) : Dormant n p k q (reeval m s) := by
  rw [Machine.reeval]
  split
  · rename_i ripens
    split
    · exact h
    · obtain ⟨-, -, active⟩ := ripe_needs ripens
      have ne : n ≠ m := h.ne (by rw [active]; rfl)
      refine Dormant.dispatch (h.of_parts ?_ ?_ (fun u hu => ?_) (notices_joinQueue m s)) _
      · rw [carrier_joinQueue, if_neg ne]
      · rw [carrier_joinQueue, if_neg ne]
      · rw [offerQueue_joinQueue] at hu
        split at hu
        · exact (List.mem_append.1 hu).resolve_right fun hn => ne (List.mem_singleton.1 hn)
        · exact hu
  · exact h.unqueue m

theorem Dormant.reevalDependents (h : Dormant n p k q s) (x : Site) : Dormant n p k q (reevalDependents x s) := by
  refine forList_induction (Dormant n p k q) _ (fun m u hu => ?_) allSites s h
  split
  · exact hu.reeval m
  · exact hu

/-- A holdoff starts on ACTIVE anchors only (R84). -/
theorem Dormant.leftDraining (h : Dormant n p k q s) (was : Power) (anchors : List Site) :
    Dormant n p k q (leftDraining was anchors s) := by
  rw [Machine.leftDraining]
  split
  · refine forList_induction (Dormant n p k q) _ (fun x u hu => ?_) anchors s h
    split
    · rename_i settles
      rw [Bool.and_eq_true, beq_iff_eq] at settles
      exact hu.modCarrier (hu.ne (by rw [settles.2]; rfl)) _
    · exact hu
  · exact h

theorem Dormant.leftExchange (h : Dormant n p k q s) (was : Power) (u : Tenant) :
    Dormant n p k q (leftExchange was u s) := by
  rw [Machine.leftExchange]
  split
  · exact h.dispatch u
  · exact h

theorem Dormant.withdraw (h : Dormant n p k q s) (m : Site) (why : Reason) : Dormant n p k q (withdraw m why s) := by
  rw [Machine.withdraw]
  split
  · rename_i exchange
    have ne := h.ne (Power.inService_of_needs (Power.needs_of_inExchange exchange))
    exact (((h.enterActive ne).leftDraining _ _).post ne _).dispatch _
  · exact h

theorem Dormant.withdrawWhere (h : Dormant n p k q s) (chosen : State → Site → Bool) (why : Reason) :
    Dormant n p k q (withdrawWhere chosen why s) := by
  refine forList_induction (Dormant n p k q) _ (fun m u hu => ?_) allSites s h
  split
  · exact hu.withdraw m why
  · exact hu

/-! ### Wakes -/

theorem Dormant.powered (h : Dormant n p k q s) (ne : n ≠ m) : Dormant n p k q (powered m s) := by
  have told (u : Tenant) (l : Nat) : Dormant n p k q (Machine.post u (.powered m l) (Machine.enterActive m s)) :=
    (h.enterActive ne).post ne u
  rw [Machine.powered]
  split
  · exact (told _ _).reevalDependents m
  · exact told _ _

theorem Dormant.enterWaking (h : Dormant n p k q s) (ne : n ≠ m) (cls : RampClass) :
    Dormant n p k q (enterWaking m cls s) := by
  have rises := h.modCarrier ne Carrier.rising
  cases hs : (s.rail (s.carrier m).rail).state with
  | on => rw [enterWaking_of_on hs]; exact rises.powered ne
  | hold => rw [enterWaking_of_hold hs]; exact (rises.apart (modRail_apart _ _ Rail.unheld)).powered ne
  | off => rw [enterWaking_of_off hs]; exact rises.apart (queueRail_apart _ _ _)
  | queued => rw [enterWaking_of_queued hs]; exact rises.apart (raiseRail_apart _ _ _)
  | ramping => rw [enterWaking_of_waiting (.inl hs)]; exact rises
  | retryWait => rw [enterWaking_of_waiting (.inr hs)]; exact rises
  | fault => rw [enterWaking_of_fault hs]; exact (h.modCarrier ne _).post ne _

theorem Dormant.wakeCarrier (h : Dormant n p k q s) (m : Site) (cls : RampClass) :
    Dormant n p k q (wakeCarrier m cls s) := by
  by_cases asleep : (s.carrier m).power = .asleep
  · rw [wakeCarrier_of_asleep asleep]
    exact (h.stack _).enterWaking (h.ne (by rw [asleep]; rfl)) cls
  · rw [wakeCarrier_of_not asleep]
    exact h

theorem Dormant.bulkWake (h : Dormant n p k q s) (chosen : State → Site → Bool) (cls : RampClass) :
    Dormant n p k q (bulkWake chosen cls s) := by
  refine forList_induction (Dormant n p k q) _ (fun m u hu => ?_) s.stack s h
  split
  · exact hu.wakeCarrier m cls
  · exact hu

/-! ### The sweep of a rail -/

theorem Dormant.anchorLeaves (h : Dormant n p k q s) (x : Site) (was : Carrier) :
    Dormant n p k q (anchorLeaves x was s) := by
  rw [Machine.anchorLeaves]
  split
  · rw [restoration_eq_where]
    exact ((h.reevalDependents x).withdrawWhere _ _).bulkWake _ _
  · exact h

theorem Dormant.downed (h : Dormant n p k q s) (ne : n ≠ m) (cause : FaultCause) :
    Dormant n p k q (downed m cause s) :=
  ((h.unqueue m).modCarrier ne _).stack _

/-- The sweep passes a carrier out of service by. -/
theorem Dormant.sweepCarrier (h : Dormant n p k q s) (m : Site) : Dormant n p k q (sweepCarrier m s) := by
  rw [Machine.sweepCarrier]
  split
  · rename_i inService
    have ne := h.ne inService
    have faulted : Dormant n p k q (takeToFaulted m .rail s) :=
      ((h.downed ne .rail).leftDraining _ _).leftExchange _ _
    exact (faulted.post ne _).anchorLeaves m _
  · exact h

theorem Dormant.sweepTurn (h : Dormant n p k q s) (r : RailId) (m : Site) : Dormant n p k q (sweepTurn r m s) := by
  by_cases on : On r m s
  · rw [sweepTurn_of_on on]; exact h.sweepCarrier m
  · rw [sweepTurn_of_not_on on]; exact h

theorem Dormant.sweepRail (h : Dormant n p k q s) (r : RailId) : Dormant n p k q (sweepRail r s) :=
  forList_induction (Dormant n p k q) (Machine.sweepTurn r) (fun m _ hu => hu.sweepTurn r m) allSites s h

end

end Sys2Proof.Machine
end

/-! # A fall of RAIL_PG

Every carrier in service on the rail goes down once: at its own turn of the sweep, or before it, when the restoration of
another carrier's dependents wakes it onto the faulted rail. From then on it is out of service and the sweep passes it
by. -/

section

namespace Sys2Proof.Machine

/-- Carrier n is in service. -/
def Serving (n : Site) (s : State) : Prop := (s.carrier n).power.inService = true

/-- The rail's fault has taken carrier n down, and told so: the notice is the one about it in its owner's queue. -/
def Swept (n : Site) (o : Tenant) (l : Nat) (s : State) : Prop :=
  ∃ q, Dormant n .faulted (some .rail) q s ∧ ((s.port o).link ≠ .disabled → q o = [.faulted n l])

/-- What holds all the time while rail r is swept. -/
structure Amid (r : RailId) (s u : State) : Prop where
  cascade : Cascade s u
  carriers : CarriersOk u
  down : Down r u

section

variable {r : RailId} {n m : Site} {o : Tenant} {l : Nat} {s t u : State}

theorem Amid.moves (h : Amid r s t) (k : Moves t u) : Amid r s u where
  cascade := h.cascade.trans k.cascade
  carriers := k.keeps (fun _ _ m => m.keeps_carriers) h.carriers
  down := k.keeps (fun _ _ m => m.keeps_down) h.down

/-! ### In service -/

theorem Serving.of_power (h : Serving n s) (same : (t.carrier n).power = (s.carrier n).power) : Serving n t := by
  rw [Serving, same]; exact h

theorem Serving.modCarrier (h : Serving n s) (ne : n ≠ m) (f : Carrier → Carrier) : Serving n (s.modCarrier m f) :=
  h.of_power (by rw [carrier_modCarrier_ne s f ne])

/-- The scheduler and the exchange take no carrier out of service. -/
theorem Ease.keeps_serving (e : Ease s t) (h : Serving n s) : Serving n t := by
  cases e with
  | notice u x _ => exact h
  | leaves m => exact h.of_power (by rw [carrier_unqueue]; split <;> rfl)
  | joins m _ _ => exact h.of_power (by rw [carrier_joinQueue]; split <;> rfl)
  | offers u m rest _ _ =>
    rw [Serving, carrier_issueOffer]
    split
    · rfl
    · exact h
  | activates m _ =>
    by_cases ne : n = m
    · subst ne
      rw [Serving, carrier_enterActive_same]
      rfl
    · exact h.of_power (by rw [carrier_enterActive_ne s ne])
  | settles x _ _ => exact h.of_power (by rw [carrier_modCarrier]; split <;> rfl)

theorem Eases.keeps_serving (e : Eases s t) (h : Serving n s) : Serving n t := e.keeps (fun _ _ e => e.keeps_serving) h

theorem Serving.apart (h : Serving n s) (g : Apart s t) : Serving n t :=
  h.of_power (by rw [State.carrier, g.carriers]; rfl)

/-- The wake of another carrier. -/
theorem Serving.enterWaking (h : Serving n s) (ne : n ≠ m) (cls : RampClass) : Serving n (enterWaking m cls s) := by
  have waking : ((s.modCarrier m Carrier.rising).carrier m).power = .waking := by rw [carrier_modCarrier_same]; rfl
  have rises := h.modCarrier ne Carrier.rising
  cases hs : (s.rail (s.carrier m).rail).state with
  | on => rw [enterWaking_of_on hs]; exact (powered_eases m _ waking).keeps_serving rises
  | hold =>
    rw [enterWaking_of_hold hs]
    exact (powered_eases m ((s.modCarrier m Carrier.rising).modRail (s.carrier m).rail Rail.unheld) waking).keeps_serving
      (rises.apart (modRail_apart _ _ Rail.unheld))
  | off => rw [enterWaking_of_off hs]; exact rises.apart (queueRail_apart _ _ _)
  | queued => rw [enterWaking_of_queued hs]; exact rises.apart (raiseRail_apart _ _ _)
  | ramping => rw [enterWaking_of_waiting (.inl hs)]; exact rises
  | retryWait => rw [enterWaking_of_waiting (.inr hs)]; exact rises
  | fault => rw [enterWaking_of_fault hs]; exact (Ease.notice _ _ rfl).keeps_serving (h.modCarrier ne _)

theorem Serving.downed (h : Serving n s) (ne : n ≠ m) (cause : FaultCause) : Serving n (downed m cause s) :=
  ((Ease.leaves m).keeps_serving h).modCarrier ne (Carrier.downed cause)

/-- A carrier in service has been taken down by its rail's fault and told so, before its dependents are looked at. -/
def takenDown (m : Site) (u : State) : State :=
  post (u.carrier m).owner (.faulted m (noticeNumber (takeToFaulted m .rail u) m)) (takeToFaulted m .rail u)

theorem sweepCarrier_of_serving (h : Serving m u) : sweepCarrier m u = anchorLeaves m (u.carrier m) (takenDown m u) :=
  if_pos h

theorem takenDown_moves (h : Serving m u) : Moves u (takenDown m u) :=
  (takeToFaulted_moves m .rail u h).trans (Eases.moves (Ease.notice _ _ rfl).run)

theorem Serving.takenDown (h : Serving n u) (ne : n ≠ m) : Serving n (takenDown m u) := by
  have ends : Eases (Machine.downed m .rail u) (takeToFaulted m .rail u) :=
    (leftDraining_eases _ _ _).trans (leftExchange_eases _ _ _)
  exact (Ease.notice _ _ rfl).keeps_serving (ends.keeps_serving (h.downed ne .rail))

/-! ### Swept -/

/-- What keeps a carrier dormant, whatever its notices, keeps it swept. -/
theorem Swept.of_dormant (h : Swept n o l s) (cascade : Cascade s t)
    (keeps : ∀ q, Dormant n .faulted (some .rail) q s → Dormant n .faulted (some .rail) q t) : Swept n o l t := by
  obtain ⟨q, dormant, told⟩ := h
  exact ⟨q, keeps q dormant, fun link => told (cascade.link o ▸ link)⟩

/-- A carrier just taken down by the fault of its rail, its notice posted. -/
theorem swept_post (power : (s.carrier n).power = .faulted) (cause : (s.carrier n).cause = some .rail)
    (out : Unqueued s n) : Swept n o l (post o (.faulted n l) s) := by
  refine ⟨fun u => notesAbout n u (post o (.faulted n l) s), ⟨rfl, power, cause, fun u hu => ?_, fun _ => rfl⟩,
    fun link => ?_⟩
  · rw [offerQueue_post] at hu
    exact out u hu
  · rw [(post_cascade o _ s).link] at link
    exact notesAbout_post_self rfl link

/-- A sleeper woken onto its faulted rail. -/
theorem swept_wakeCarrier (amid : Amid r s u) (rail : (u.carrier n).rail = r) (asleep : (u.carrier n).power = .asleep)
    (cls : RampClass) : Swept n (s.carrier n).owner (noticeNumber s n) (wakeCarrier n cls u) := by
  have fault : (({ u with stack := u.stack.filter (· != n) } : State).rail (u.carrier n).rail).state = .fault := by
    rw [rail]; exact amid.down.state
  have number : noticeNumber { u with stack := u.stack.filter (· != n) } n = noticeNumber s n :=
    noticeNumber_cascade (amid.cascade.trans (cascade_stack u _)) n
  have owner : (u.carrier n).owner = (s.carrier n).owner := amid.cascade.owner n
  have out : Unqueued u n := unqueued_of_power amid.carriers (by rw [asleep]; exact nofun)
  rw [wakeCarrier_of_asleep asleep, enterWaking_of_fault fault, number, ← owner]
  exact swept_post (by rw [carrier_modCarrier_same]) (by rw [carrier_modCarrier_same]) out

/-- The record of a carrier in service, and its owner's queue, after its own part of the sweep. -/
theorem swept_taken (amid : Amid r s u) (serving : Serving n u) :
    Swept n (s.carrier n).owner (noticeNumber s n) (takenDown n u) := by
  have number : noticeNumber (takeToFaulted n .rail u) n = noticeNumber s n :=
    noticeNumber_cascade (amid.moves (takeToFaulted_moves n .rail u serving)).cascade n
  have owner : (u.carrier n).owner = (s.carrier n).owner := amid.cascade.owner n
  have record := carrier_downed_same n .rail u
  have fallen : Dormant n .faulted (some .rail) (fun w => notesAbout n w (downed n .rail u)) (downed n .rail u) :=
    ⟨rfl, by rw [record]; rfl, by rw [record]; rfl, unqueued_unqueue n amid.carriers.2.1, fun _ => rfl⟩
  have taken := (fallen.leftDraining (u.carrier n).power (u.carrier n).anchors).leftExchange (u.carrier n).power
    (u.carrier n).owner
  rw [takenDown, number, owner]
  exact swept_post taken.power taken.cause taken.unqueued

/-! ### One turn of the sweep -/

/-- Carrier n of rail r is in service still, or the sweep has taken it down. -/
def Sweepable (n : Site) (o : Tenant) (l : Nat) (u : State) : Prop := Serving n u ∨ Swept n o l u

theorem Sweepable.wakeCarrier (h : Sweepable n (s.carrier n).owner (noticeNumber s n) u) (amid : Amid r s u)
    (rail : (s.carrier n).rail = r) (m : Site) (cls : RampClass) :
    Sweepable n (s.carrier n).owner (noticeNumber s n) (wakeCarrier m cls u) := by
  rcases h with serving | swept
  · by_cases asleep : (u.carrier m).power = .asleep
    · by_cases ne : n = m
      · subst ne
        exact .inr (swept_wakeCarrier amid ((railOf_cascade amid.cascade n).trans rail) asleep cls)
      · rw [wakeCarrier_of_asleep asleep]
        have left : Serving n { u with stack := u.stack.filter (· != m) } := serving
        exact .inl (left.enterWaking ne cls)
    · rw [wakeCarrier_of_not asleep]
      exact .inl serving
  · exact .inr (swept.of_dormant (wakeCarrier_moves m cls u).cascade fun q h => h.wakeCarrier m cls)

theorem Sweepable.bulkWake (h : Sweepable n (s.carrier n).owner (noticeNumber s n) u) (amid : Amid r s u)
    (rail : (s.carrier n).rail = r) (chosen : State → Site → Bool) (cls : RampClass) :
    Sweepable n (s.carrier n).owner (noticeNumber s n) (bulkWake chosen cls u) := by
  have both : Amid r s (Machine.bulkWake chosen cls u) ∧
      Sweepable n (s.carrier n).owner (noticeNumber s n) (Machine.bulkWake chosen cls u) := by
    refine forList_induction (fun v => Amid r s v ∧ Sweepable n (s.carrier n).owner (noticeNumber s n) v) _
      (fun m v hv => ?_) u.stack u ⟨amid, h⟩
    obtain ⟨amid, hv⟩ := hv
    split
    · exact ⟨amid.moves (wakeCarrier_moves m cls v), hv.wakeCarrier amid rail m cls⟩
    · exact ⟨amid, hv⟩
  exact both.2

theorem Sweepable.anchorLeaves (h : Sweepable n (s.carrier n).owner (noticeNumber s n) u) (amid : Amid r s u)
    (rail : (s.carrier n).rail = r) (x : Site) (was : Carrier) :
    Sweepable n (s.carrier n).owner (noticeNumber s n) (anchorLeaves x was u) := by
  have eases : Eases u (withdrawWhere (restorable x) .coverage (reevalDependents x u)) :=
    (reevalDependents_eases x u).trans (withdrawWhere_eases _ _ _)
  rw [Machine.anchorLeaves]
  split
  · rw [restoration_eq_where]
    refine Sweepable.bulkWake (h.imp eases.keeps_serving fun swept => ?_) (amid.moves eases.moves) rail _ _
    exact swept.of_dormant eases.moves.cascade fun q h => (h.reevalDependents x).withdrawWhere _ _
  · exact h

/-- Another carrier takes its turn, or the carrier itself when it is down already. -/
theorem Sweepable.sweepCarrier (h : Sweepable n (s.carrier n).owner (noticeNumber s n) u) (amid : Amid r s u)
    (rail : (s.carrier n).rail = r) (ne : n ≠ m) :
    Sweepable n (s.carrier n).owner (noticeNumber s n) (sweepCarrier m u) := by
  rcases h with serving | swept
  · by_cases hm : (u.carrier m).power.inService = true
    · rw [sweepCarrier_of_serving hm]
      exact Sweepable.anchorLeaves (.inl (serving.takenDown ne)) (amid.moves (takenDown_moves hm)) rail m _
    · rw [Machine.sweepCarrier, if_neg hm]
      exact .inl serving
  · exact .inr (swept.of_dormant (sweepCarrier_moves m u).cascade fun q h => h.sweepCarrier m)

/-- The carrier's own turn takes it down. -/
theorem Sweepable.own_turn (h : Sweepable n (s.carrier n).owner (noticeNumber s n) u) (amid : Amid r s u) :
    Swept n (s.carrier n).owner (noticeNumber s n) (Machine.sweepCarrier n u) := by
  rcases h with serving | swept
  · rw [sweepCarrier_of_serving serving]
    exact (swept_taken amid serving).of_dormant (anchorLeaves_moves n _ _).cascade fun q h => h.anchorLeaves n _
  · exact swept.of_dormant (sweepCarrier_moves n u).cascade fun q h => h.sweepCarrier n

/-- The sweep takes every carrier in service on the rail down. -/
theorem swept_sweepRail (amid : Amid r s s) (on : On r n s) (serving : Serving n s) :
    Swept n (s.carrier n).owner (noticeNumber s n) (sweepRail r s) := by
  have own {u : State} (h : Amid r s u ∧ Sweepable n (s.carrier n).owner (noticeNumber s n) u) :
      Swept n (s.carrier n).owner (noticeNumber s n) (sweepTurn r n u) := by
    rw [sweepTurn_of_on ((on_of_cascade h.1.cascade).2 on)]
    exact h.2.own_turn h.1
  refine forList_reaches (P := fun u => Amid r s u ∧ Sweepable n (s.carrier n).owner (noticeNumber s n) u)
    (x := n) (fun m u h => ⟨h.1.moves (sweepTurn_moves r m u), ?_⟩) (fun u h => own h)
    (fun m u _ swept => swept.of_dormant (sweepTurn_moves r m u).cascade fun q h => h.sweepTurn r m) allSites s
    ⟨amid, .inl serving⟩ (.inl (mem_allSites n))
  by_cases ne : n = m
  · subst ne
    exact .inr (own h)
  · by_cases hm : On r m u
    · rw [sweepTurn_of_on hm]
      exact h.2.sweepCarrier h.1 on.2 ne
    · rw [sweepTurn_of_not_on hm]
      exact h.2

/-! ### The fall -/

/-- The rail right after the fall was told and it entered FAULT. -/
def Rail.fell (now : Time) (x : Rail) : Rail :=
  { x with powerGood := false, toldAt := some now, state := .fault, graceTimer := none, settleTimer := none, held := false }

/-- The state in which the rail is in FAULT and its alert raised, before the sweep. -/
def fellState (r : RailId) (s : State) : State := addAlert (railFaultCode r) (s.modRail r (Rail.fell s.now))

theorem powerFalls_of_lit (h : (s.rail r).state = .on ∨ (s.rail r).state = .hold) :
    powerFalls r s = sweepRail r (fellState r s) := by
  rw [powerFalls, if_pos (by rcases h with h | h <;> rw [h] <;> rfl), enterFault, tellPowerGood, modRail_modRail]
  rfl

theorem powerFalls_elsewhere (on : (s.rail r).state ≠ .on) (hold : (s.rail r).state ≠ .hold) :
    powerFalls r s = tellPowerGood r false s := by
  rw [powerFalls, if_neg]
  simp [on, hold]

theorem orderly_fellState (h : RampOk s) (hs : (s.rail r).state = .on ∨ (s.rail r).state = .hold) :
    Orderly none (fellState r s) := by
  have orderly := rampOk_iff.1 h
  have retry := (orderly.timed r).retry
  have falls : Orderly none (s.modRail r (Rail.fell s.now)) :=
    orderly.modRail_aloof (by rcases hs with hs | hs <;> rw [hs] <;> rfl) rfl
      (Rail.Quiet.timed ⟨rfl, by rcases hs with hs | hs <;> simpa [Rail.fell, hs] using retry, rfl, rfl⟩ nofun nofun)
  exact falls.of_parts rfl rfl

theorem rail_fellState (r : RailId) (s : State) : (fellState r s).rail r = (s.rail r).fell s.now :=
  rail_modRail_same s r _

theorem amid_fellState (hc : CarriersOk s) (h : RampOk s) (hs : (s.rail r).state = .on ∨ (s.rail r).state = .hold) :
    Amid r (fellState r s) (fellState r s) := by
  refine ⟨.refl _, hc, ⟨by rw [rail_fellState]; rfl, ?_⟩⟩
  exact (orderly_fellState h hs).not_mem_queue (by rw [rail_fellState]; exact nofun)

/-- The rail stays as the fall left it while its carriers are swept. -/
theorem rail_sweepRail_fellState (hc : CarriersOk s) (h : RampOk s)
    (hs : (s.rail r).state = .on ∨ (s.rail r).state = .hold) :
    let x := (sweepRail r (fellState r s)).rail r
    x.state = .fault ∧ x.graceTimer = none ∧ x.held = false ∧ x.powerGood = false ∧ x.toldAt = some s.now := by
  have moves := sweepRail_moves r (fellState r s)
  have down := ((amid_fellState hc h hs).moves moves).down
  have quiet := ((moves.keeps_orderly (orderly_fellState h hs)).timed r).quiet (.inr (.inr (.inr down.state)))
  have lasting := moves.cascade.rails r
  rw [rail_fellState] at lasting
  simp only [Rail.lasting, Prod.mk.injEq] at lasting
  obtain ⟨-, -, -, -, -, -, -, good, told⟩ := lasting
  exact ⟨down.state, quiet.grace, quiet.held, good, told⟩

theorem alerts_fellState (r : RailId) (s : State) (k : Fin 10) :
    (fellState r s).alerts[k] = if k.val = r.val then true else s.alerts[k] := by
  have set : (fellState r s).alerts = s.alerts.set r.val true := rfl
  rw [set, Fin.getElem_fin, Vector.getElem_set]
  simp only [eq_comm (a := r.val)]
  rfl

theorem exec_powerGoodFall (r : RailId) (s : State) : exec (.powerGoodFall r) s = .next (powerFalls r s) := rfl

end

/-- Settles O19: on a rail in neither state only its line is told; on the others the fall leaves the rail in FAULT, and
the sweep takes down what is in service and passes by what is not. -/
theorem powerGoodFallFaults : Obligations.PowerGoodFallFaults := by
  intro r s
  refine ⟨fun on hold => ⟨?_, ?_⟩, fun lit carriers ramp => ?_⟩
  · rw [exec_powerGoodFall, powerFalls_elsewhere on hold]
    rfl
  · refine exec_settleExpiry_of_fallen ?_
    rw [rail_modRail_same]
    exact ⟨rfl, rfl⟩
  have amid := amid_fellState carriers ramp lit
  obtain ⟨state, grace, held, good, told⟩ := rail_sweepRail_fellState carriers ramp lit
  have cascade := (sweepRail_moves r (fellState r s)).cascade
  rw [exec_powerGoodFall, powerFalls_of_lit lit]
  refine ⟨_, rfl, state, grace, held, good, told, fun k => ?_, fun n provisioned rail => ?_⟩
  · rw [cascade.alerts, alerts_fellState]
  intro notices o
  have dormant (idle : (s.carrier n).power.inService = false) :
      Dormant n (s.carrier n).power (s.carrier n).cause (fun u => notesAbout n u s) (sweepRail r (fellState r s)) := by
    refine Dormant.sweepRail (s := fellState r s) ⟨idle, rfl, rfl, ?_, fun _ => rfl⟩ r
    have inactive : (s.carrier n).power ≠ .active := fun active => by rw [active] at idle; cases idle
    exact unqueued_of_power (s := s) carriers inactive
  refine ⟨fun offline => ?_, fun faulted => ?_, fun offline faulted => ?_⟩
  · obtain ⟨-, power, -, -, notes⟩ := dormant (by rw [offline]; rfl)
    exact ⟨power.trans offline, notes⟩
  · obtain ⟨-, power, cause, -, notes⟩ := dormant (by rw [faulted]; rfl)
    exact ⟨power.trans faulted, cause, notes⟩
  · have serving : Serving n (fellState r s) := (inService_iff _).2 ⟨offline, faulted⟩
    obtain ⟨q, ⟨-, power, cause, -, notes⟩, only⟩ := swept_sweepRail amid ⟨provisioned, rail⟩ serving
    exact ⟨power, cause, fun link => (notes o).trans (only (by rw [cascade.link]; exact link))⟩

end Sys2Proof.Machine
end

/-! # Periods that have reached their length -/

section

namespace Sys2Proof.Machine

/-! ### Timers and lengths of the periods -/

/-- The timer of a period in a record; the grace period is a rail's. -/
def Period.timer : Period → Carrier → Option Time
  | .dwell, c => c.dwell.runningSince
  | .stale, c => c.staleTimer
  | .minAwake, c => c.minAwake.runningSince
  | .holdoff, c => c.holdoff
  | .answer, c => c.answerTimer
  | .drain, c => c.drainTimer
  | .grace, _ => none

/-- The length of a period in seconds, by a bank. -/
def Period.length : Period → Bank → Nat
  | .dwell, b => b.dwell
  | .stale, b => b.staleLimit
  | .minAwake, b => b.minAwake
  | .holdoff, b => b.surgeHoldoff
  | .answer, b => b.answerTime
  | .drain, b => b.drainTime
  | .grace, b => b.railGrace

theorem Period.reached_eq (p : Period) (s : State) (n : Site) :
    p.reached s n = due s (p.timer (s.carrier n)) (secs (p.length (bank s))) := by
  cases p <;> rfl

/-- A timer that starts now has not reached a length. -/
theorem due_now {s : State} {len : Nat} (h : 0 < len) : due s (some s.now) (secs len) = false := by
  simp only [due, elapsedSince, BitVec.sub_self, secs, decide_eq_false_iff_not, not_le]
  exact Nat.mul_pos (by decide) h

theorem Cascade.now {s t : State} (h : Cascade s t) : t.now = s.now := congrArg Clock.now h.clock

theorem Cascade.due {s t : State} (h : Cascade s t) (timer : Option Time) (len : Nat) :
    Machine.due t timer len = Machine.due s timer len := by
  cases timer with
  | none => rfl
  | some start => exact congrArg (fun now : Time => decide (len ≤ (now - start).toNat)) h.now

/-! ### No period comes nearer to its end -/

/-- From one record to the other a period has not come nearer to its end: its timer runs on, is stopped, or starts now
with a length to run. -/
def Fades (s : State) (p : Period) (c d : Carrier) : Prop :=
  p.timer d = p.timer c ∨ p.timer d = none ∨ (p.timer d = some s.now ∧ 0 < p.length (bank s))

theorem Fades.refl (s : State) (p : Period) (c : Carrier) : Fades s p c c := .inl rfl

theorem Fades.reached {s t : State} {p : Period} {n : Site} (h : Fades s p (s.carrier n) (t.carrier n))
    (k : Cascade s t) (ht : p.reached t n = true) : p.reached s n = true := by
  rw [Period.reached_eq, k.bank, k.due] at ht
  rw [Period.reached_eq]
  rcases h with h | h | ⟨h, hl⟩
  · rwa [h] at ht
  · rw [h] at ht; cases ht
  · rw [h, due_now hl] at ht; cases ht

theorem fades_modCarrier {s : State} {n : Site} {f : Carrier → Carrier}
    (h : ∀ p, Fades s p (s.carrier n) (f (s.carrier n))) (p : Period) (m : Site) :
    Fades s p (s.carrier m) ((s.modCarrier n f).carrier m) := by
  rw [carrier_modCarrier]
  split
  · rename_i hm; subst hm; exact h p
  · exact .refl s p _

/-- An offer, and a surge holdoff, does not end at the moment it begins (R138). -/
abbrev LengthsOk (b : Bank) : Prop := 0 < b.answerTime ∧ 0 < b.surgeHoldoff

theorem lengthsOk_bank {s : State} (h : SettingsOk s) : LengthsOk (bank s) := by
  obtain ⟨-, -, -, -, -, -, -, -, holdoff, answer, -⟩ := h.1 (selectedBank s)
  exact ⟨answer.1, Nat.lt_of_lt_of_le (by decide) holdoff.1⟩

theorem fades_ripeTime (s : State) (p : Period) (c : Carrier) (r : Option Time) :
    Fades s p c { c with ripeTime := r } := by cases p <;> exact .inl rfl

theorem fades_offeredNow {s : State} (hl : LengthsOk (bank s)) (p : Period) (c : Carrier) :
    Fades s p c (c.offeredNow s) := by
  cases p with
  | dwell => exact .inr (.inl rfl)
  | answer => exact .inr (.inr ⟨rfl, hl.1⟩)
  | _ => exact .inl rfl

/-- A min-awake that starts with a length of 0 has passed at once (R51). -/
theorem fades_startMinAwake (s : State) (c : Carrier) (role : Role) :
    Fades s .minAwake c { c with minAwake := startMinAwake s role } := by
  cases role with
  | coverage => exact .inr (.inl rfl)
  | capacity =>
    by_cases h : (bank s).minAwake = 0
    · exact .inr (.inl (by simp [startMinAwake, h, Period.timer, MinAwake.runningSince]))
    · exact .inr (.inr ⟨by simp [startMinAwake, h, Period.timer, MinAwake.runningSince], Nat.pos_of_ne_zero h⟩)

theorem fades_activated (s : State) (p : Period) (c : Carrier) : Fades s p c { c with
    power := .active, load := none, stale := false, staleTimer := none, dwell := .absent
    minAwake := startMinAwake s c.role, ripeTime := none, answerTimer := none, drainTimer := none
    holdoff := none } := by
  cases p with
  | minAwake => exact fades_startMinAwake s c c.role
  | grace => exact .inl rfl
  | _ => exact .inr (.inl rfl)

theorem Ease.fades {s t : State} (e : Ease s t) (hl : LengthsOk (bank s)) (p : Period) (m : Site) :
    Fades s p (s.carrier m) (t.carrier m) := by
  cases e with
  | notice u x _ => exact .refl s p _
  | leaves n =>
    rw [carrier_unqueue]
    split
    · exact fades_ripeTime s p _ none
    · exact .refl s p _
  | joins n _ _ =>
    rw [carrier_joinQueue]
    split
    · exact fades_ripeTime s p _ _
    · exact .refl s p _
  | offers u n rest _ _ =>
    rw [carrier_issueOffer]
    split
    · exact fades_offeredNow hl p _
    · exact .refl s p _
  | activates n _ =>
    by_cases hm : m = n
    · subst hm
      rw [carrier_enterActive_same]
      exact fades_activated s p _
    · rw [carrier_enterActive_ne s hm]
      exact .refl s p _
  | settles x _ _ =>
    refine fades_modCarrier (fun q => ?_) p m
    cases q with
    | holdoff => exact .inr (.inr ⟨rfl, hl.2⟩)
    | _ => exact .inl rfl

/-- From s to t a cascade among carriers has brought no period to its end. -/
structure Spares (s t : State) : Prop where
  cascade : Cascade s t
  rails : t.rails = s.rails
  ends : ∀ (p : Period) (m : Site), p.reached t m = true → p.reached s m = true

theorem Spares.refl (s : State) : Spares s s := ⟨.refl s, rfl, fun _ _ => id⟩

theorem Spares.trans {s t u : State} (h : Spares s t) (k : Spares t u) : Spares s u :=
  ⟨h.cascade.trans k.cascade, k.rails.trans h.rails, fun p m hu => h.ends p m (k.ends p m hu)⟩

theorem Eases.spares {s t : State} (h : Eases s t) (hl : LengthsOk (bank s)) : Spares s t := by
  induction h with
  | refl => exact .refl s
  | tail _ e ih =>
    refine ih.trans ⟨e.cascade, e.rails.1, fun p m => (e.fades ?_ p m).reached e.cascade⟩
    rwa [ih.cascade.bank]

/-- A record's timers run on or are stopped. -/
theorem spares_modCarrier (s : State) (n : Site) (f : Carrier → Carrier) (hf : ∀ c, (f c).lasting = c.lasting)
    (h : ∀ (p : Period) c, p.timer (f c) = p.timer c ∨ p.timer (f c) = none) : Spares s (s.modCarrier n f) := by
  have cascade := cascade_modCarrier s n f hf
  exact ⟨cascade, rfl, fun p m => (fades_modCarrier (fun q => (h q _).imp_right .inl) p m).reached cascade⟩

/-! ### The ends of the periods themselves -/

/-- The stale timer stops. -/
theorem staleStop_spares (n : Site) (s : State) : Spares s (s.modCarrier n fun c => { c with staleTimer := none }) :=
  spares_modCarrier s n _ (fun _ => by rfl) fun p _ => by cases p <;> simp [Period.timer]

theorem staleExpires_spares (n : Site) {s : State} (hl : LengthsOk (bank s)) : Spares s (staleExpires n s) := by
  cases hp : (s.carrier n).power with
  | active =>
    have stale := spares_modCarrier s n (fun c => { c with staleTimer := none, stale := true, dwell := .absent })
      (fun _ => by rfl) fun p _ => by cases p <;> simp [Period.timer, Dwell.runningSince]
    have left : Spares s (staled n s) := by
      rw [staled_eq]
      exact stale.trans ((Ease.leaves n).run.spares (by rwa [stale.cascade.bank]))
    rw [staleExpires_active hp]
    split
    · exact left.trans ((reevalDependents_eases n _).spares (by rwa [left.cascade.bank]))
    · exact left
  | offered => rw [staleExpires_offered n s hp]; exact (withdraw_eases n .stale s).spares hl
  | _ => simp only [staleExpires, hp]; exact staleStop_spares n s

/-- A dwell after its end (R50). -/
def Dwell.ended : Dwell → Dwell
  | .running st => .elapsed st
  | .elapsed st => .elapsed st
  | .absent => .absent

theorem dwellEnds_eq_ended (n : Site) (s : State) :
    dwellEnds n s = s.modCarrier n fun c => { c with dwell := c.dwell.ended } := by
  rw [dwellEnds]
  split <;> rename_i h
  · exact modCarrier_congr (by rw [h]; rfl)
  all_goals exact (modCarrier_eq_self (by rw [h, Dwell.ended, ← h])).symm

theorem dwellEnds_spares (n : Site) (s : State) : Spares s (dwellEnds n s) := by
  rw [dwellEnds_eq_ended]
  refine spares_modCarrier s n _ (fun _ => by rfl) fun p c => ?_
  cases p with
  | dwell => exact .inr (by cases c.dwell <;> simp [Period.timer, Dwell.ended, Dwell.runningSince])
  | _ => exact .inl rfl

theorem minAwakeEnds_spares (n : Site) (s : State) : Spares s (minAwakeEnds n s) := by
  rw [minAwakeEnds]
  split
  · refine spares_modCarrier s n _ (fun _ => by rfl) fun p c => ?_
    cases p <;> simp [Period.timer, MinAwake.runningSince]
  all_goals exact .refl s

theorem answerExpires_spares (n : Site) {s : State} (hl : LengthsOk (bank s)) : Spares s (answerExpires n s) := by
  by_cases h : (s.carrier n).power = .offered
  · rw [answerExpires_offered n s h]; exact (withdraw_eases n .timeout s).spares hl
  · rw [answerExpires, if_neg (by simp [h])]
    exact spares_modCarrier s n _ (fun _ => by rfl) fun p _ => by cases p <;> simp [Period.timer]

theorem drainExpires_spares (n : Site) {s : State} (hl : LengthsOk (bank s)) : Spares s (drainExpires n s) := by
  by_cases h : (s.carrier n).power = .draining
  · rw [drainExpires_draining n s h]; exact (withdraw_eases n .timeout s).spares hl
  · rw [drainExpires, if_neg (by simp [h])]
    exact spares_modCarrier s n _ (fun _ => by rfl) fun p _ => by cases p <;> simp [Period.timer]

theorem holdoffEnds_spares (n : Site) (s : State) : Spares s (holdoffEnds n s) :=
  spares_modCarrier s n _ (fun _ => by rfl) fun p _ => by cases p <;> simp [Period.timer]

/-! ### The turns of `endPeriods` -/

/-- A period of a carrier, among the kinds given, has reached its length. -/
abbrev Ended (kinds : List Period) (s : State) (p : Period) (n : Site) : Prop := p ∈ kinds ∧ p.reached s n = true

/-- The grace period of a rail, where that is a kind given, has reached its length. -/
abbrev GraceEnded (kinds : List Period) (s : State) (r : RailId) : Prop :=
  Period.grace ∈ kinds ∧ graceDue s r = true

/-- The turns of `endPeriods`: one for each site in each of the carriers' blocks, and one for each rail (R143). -/
inductive Lapse where
  | stale (n : Site)
  | scheduler (n : Site)
  | exchange (n : Site)
  | holdoff (n : Site)
  | grace (r : RailId)

/-- What happens at a turn. -/
def Lapse.run (kinds : List Period) : Lapse → State → State
  | .stale n, s => if kinds.contains .stale && staleDue s n then staleExpires n s else s
  | .scheduler n, s => schedulerEnds kinds n s
  | .exchange n, s => exchangeEnds kinds n s
  | .holdoff n, s => if kinds.contains .holdoff && holdoffDue s n then holdoffEnds n s else s
  | .grace r, s => if kinds.contains .grace && graceDue s r then graceExpires r s else s

/-- The turns in their order. -/
def lapses : List Lapse :=
  allSites.map .stale ++ (allSites.map .scheduler ++ (allSites.map .exchange ++
    (allSites.map .holdoff ++ allRails.map .grace)))

theorem forList_append {α : Type} (l k : List α) (f : α → State → State) (s : State) :
    forList (l ++ k) f s = forList k f (forList l f s) := List.foldl_append

theorem forList_map {α β : Type} (l : List α) (g : α → β) (f : β → State → State) (s : State) :
    forList (l.map g) f s = forList l (fun x => f (g x)) s := List.foldl_map

theorem endPeriods_eq_lapses (kinds : List Period) (s : State) :
    endPeriods kinds s = forList lapses (Lapse.run kinds) s := by
  simp only [lapses, forList_append, forList_map]
  rfl

/-- A turn at which a period ends. -/
def Lapse.Ends (kinds : List Period) (s : State) : Lapse → Prop
  | .stale n => Ended kinds s .stale n
  | .scheduler n => Ended kinds s .dwell n ∨ Ended kinds s .minAwake n
  | .exchange n => Ended kinds s .answer n ∨ Ended kinds s .drain n
  | .holdoff n => Ended kinds s .holdoff n
  | .grace r => GraceEnded kinds s r

theorem contains_and_iff {kinds : List Period} {p : Period} {b : Bool} :
    (kinds.contains p && b) = true ↔ p ∈ kinds ∧ b = true := by
  rw [Bool.and_eq_true, List.contains_iff_mem]

theorem schedulerEnds_of_neither {kinds : List Period} {n : Site} {s : State}
    (hd : (kinds.contains .dwell && dwellDue s n) = false)
    (hm : (kinds.contains .minAwake && minAwakeDue s n) = false) :
    schedulerEnds kinds n s = s := by
  simp only [schedulerEnds, hd, hm]
  rfl

theorem schedulerEnds_of_dwell {kinds : List Period} {n : Site} {s : State}
    (hd : (kinds.contains .dwell && dwellDue s n) = true) (hm : (kinds.contains .minAwake && minAwakeDue s n) = false) :
    schedulerEnds kinds n s = reeval n (dwellEnds n s) := by
  simp only [schedulerEnds, hd, hm]
  rfl

theorem schedulerEnds_of_minAwake {kinds : List Period} {n : Site} {s : State}
    (hd : (kinds.contains .dwell && dwellDue s n) = false) (hm : (kinds.contains .minAwake && minAwakeDue s n) = true) :
    schedulerEnds kinds n s = reeval n (minAwakeEnds n s) := by
  simp only [schedulerEnds, hd, hm]
  rfl

theorem schedulerEnds_of_both {kinds : List Period} {n : Site} {s : State}
    (hd : (kinds.contains .dwell && dwellDue s n) = true) (hm : (kinds.contains .minAwake && minAwakeDue s n) = true) :
    schedulerEnds kinds n s = reeval n (minAwakeEnds n (dwellEnds n s)) := by
  simp only [schedulerEnds, hd, hm]
  rfl

theorem contains_and_eq_false {kinds : List Period} {p : Period} {b : Bool} (h : ¬ (p ∈ kinds ∧ b = true)) :
    (kinds.contains p && b) = false := by
  rwa [← contains_and_iff, Bool.not_eq_true] at h

/-- A turn at which no period ends does nothing. -/
theorem Lapse.run_of_not_ends {kinds : List Period} {x : Lapse} {s : State} (h : ¬ x.Ends kinds s) :
    x.run kinds s = s := by
  cases x with
  | stale n => exact if_neg (mt contains_and_iff.1 h)
  | scheduler n =>
    obtain ⟨hd, hm⟩ := not_or.1 h
    exact schedulerEnds_of_neither (contains_and_eq_false hd) (contains_and_eq_false hm)
  | exchange n =>
    obtain ⟨ha, hd⟩ := not_or.1 h
    exact (if_neg (mt contains_and_iff.1 ha)).trans (if_neg (mt contains_and_iff.1 hd))
  | holdoff n => exact if_neg (mt contains_and_iff.1 h)
  | grace r => exact if_neg (mt contains_and_iff.1 h)

/-- Whose turn it is: a carrier's, or a rail's. -/
def Lapse.site : Lapse → Option Site
  | .stale n => some n
  | .scheduler n => some n
  | .exchange n => some n
  | .holdoff n => some n
  | .grace _ => none

theorem ite_spares {s t : State} (c : Prop) [Decidable c] (h : Spares s t) : Spares s (if c then t else s) := by
  split
  · exact h
  · exact .refl s

theorem Spares.reeval {s t : State} (h : Spares s t) (hl : LengthsOk (bank s)) (n : Site) :
    Spares s (Machine.reeval n t) :=
  h.trans ((reeval_eases n t).spares (by rwa [h.cascade.bank]))

theorem schedulerEnds_spares (kinds : List Period) (n : Site) {s : State} (hl : LengthsOk (bank s)) :
    Spares s (schedulerEnds kinds n s) := by
  cases hd : kinds.contains .dwell && dwellDue s n <;> cases hm : kinds.contains .minAwake && minAwakeDue s n
  · rw [schedulerEnds_of_neither hd hm]; exact .refl s
  · rw [schedulerEnds_of_minAwake hd hm]; exact (minAwakeEnds_spares n s).reeval hl n
  · rw [schedulerEnds_of_dwell hd hm]; exact (dwellEnds_spares n s).reeval hl n
  · rw [schedulerEnds_of_both hd hm]
    exact ((dwellEnds_spares n s).trans (minAwakeEnds_spares n _)).reeval hl n

/-- A carrier's turn brings no period to its end: what it starts has a length to run. -/
theorem Lapse.run_spares (kinds : List Period) {x : Lapse} (hx : x.site ≠ none) {s : State} (hl : LengthsOk (bank s)) :
    Spares s (x.run kinds s) := by
  cases x with
  | stale n => exact ite_spares _ (staleExpires_spares n hl)
  | scheduler n => exact schedulerEnds_spares kinds n hl
  | exchange n =>
    rw [Lapse.run, exchangeEnds]
    split
    · exact answerExpires_spares n hl
    · exact ite_spares _ (drainExpires_spares n hl)
  | holdoff n => exact ite_spares _ (holdoffEnds_spares n s)
  | grace r => exact absurd rfl hx

theorem Spares.graceDue {s t : State} (h : Spares s t) (r : RailId) : Machine.graceDue t r = Machine.graceDue s r := by
  rw [Machine.graceDue, Machine.graceDue, State.rail, h.rails, h.cascade.bank, h.cascade.due]
  rfl

theorem Spares.lapse_ends {kinds : List Period} {s t : State} (h : Spares s t) {x : Lapse} (hx : x.Ends kinds t) :
    x.Ends kinds s := by
  have ended {p : Period} {n : Site} : Ended kinds t p n → Ended kinds s p n := fun ⟨hp, hr⟩ => ⟨hp, h.ends p n hr⟩
  cases x with
  | stale n => exact ended hx
  | scheduler n => exact hx.imp ended ended
  | exchange n => exact hx.imp ended ended
  | holdoff n => exact ended hx
  | grace r => exact ⟨hx.1, (h.graceDue r).symm.trans hx.2⟩

/-- The expiry of a grace timer writes its own rail only. -/
theorem graceExpires_eq_modRail (r : RailId) (s : State) : ∃ f, graceExpires r s = s.modRail r f := by
  rw [graceExpires, graceTest]
  dsimp only [railOff]
  simp only [modRail_modRail]
  split
  · split
    · exact ⟨_, rfl⟩
    · split
      · exact ⟨_, rfl⟩
      · exact ⟨_, rfl⟩
  · exact ⟨_, rfl⟩

theorem lapse_ends_of_modRail {kinds : List Period} {s : State} {r : RailId} {f : Rail → Rail} {x : Lapse}
    (h : x.Ends kinds (s.modRail r f)) (hx : x ≠ .grace r) : x.Ends kinds s := by
  have ended {p : Period} {n : Site} : Ended kinds (s.modRail r f) p n → Ended kinds s p n := fun ⟨hp, hr⟩ => by
    rw [Period.reached_eq] at hr
    exact ⟨hp, (p.reached_eq s n).trans hr⟩
  cases x with
  | stale n => exact ended h
  | scheduler n => exact h.imp ended ended
  | exchange n => exact h.imp ended ended
  | holdoff n => exact ended h
  | grace q =>
    have other : q ≠ r := fun e => hx (e ▸ rfl)
    have hr : graceDue (s.modRail r f) q = true := h.2
    rw [graceDue, rail_modRail_ne s f other] at hr
    exact ⟨h.1, hr⟩

/-- After the turn of a rail no other turn has more to do. -/
theorem lapse_ends_of_grace {kinds : List Period} {s : State} {r : RailId} {x : Lapse}
    (h : x.Ends kinds ((Lapse.grace r).run kinds s)) (hx : x ≠ .grace r) : x.Ends kinds s := by
  rw [Lapse.run] at h
  split at h
  · obtain ⟨f, hf⟩ := graceExpires_eq_modRail r s
    rw [hf] at h
    exact lapse_ends_of_modRail h hx
  · exact h

/-! ### Where no period, or one period alone, has ended -/

theorem forList_of_idle {α : Type} {f : α → State → State} {s : State} :
    ∀ {l : List α}, (∀ x ∈ l, f x s = s) → forList l f s = s
  | [], _ => rfl
  | x :: l, h => by
    rw [forList, List.foldl_cons, h x List.mem_cons_self]
    exact forList_of_idle fun y hy => h y (List.mem_cons_of_mem x hy)

/-- Of the turns of a loop one alone does something. -/
theorem forList_of_only {α : Type} {f : α → State → State} {s : State} {y : α} (before : ∀ x, x ≠ y → f x s = s)
    (after : ∀ x, x ≠ y → f x (f y s) = f y s) : ∀ {l : List α}, l.Nodup → y ∈ l → forList l f s = f y s
  | x :: l, hl, hy => by
    obtain ⟨hx, hl⟩ := List.nodup_cons.1 hl
    rw [forList, List.foldl_cons]
    rcases List.mem_cons.1 hy with rfl | hy
    · exact forList_of_idle fun z hz => after z fun e => hx (e ▸ hz)
    · rw [before x fun e => hx (e ▸ hy)]
      exact forList_of_only before after hl hy

theorem mem_lapses (x : Lapse) : x ∈ lapses := by
  cases x <;> simp [lapses, mem_allSites, mem_allRails]

theorem allRails_nodup : allRails.Nodup := by decide

theorem lapses_nodup : lapses.Nodup := by
  have sites {f : Site → Lapse} (hf : Function.Injective f) : (allSites.map f).Nodup := allSites_nodup.map hf
  refine (sites fun _ _ => Lapse.stale.inj).append ((sites fun _ _ => Lapse.scheduler.inj).append
    ((sites fun _ _ => Lapse.exchange.inj).append ((sites fun _ _ => Lapse.holdoff.inj).append
      (allRails_nodup.map fun _ _ => Lapse.grace.inj) ?_) ?_) ?_) ?_ <;> simp [List.disjoint_left]

theorem endPeriods_of_none {kinds : List Period} {s : State} (h : ∀ x : Lapse, ¬ x.Ends kinds s) :
    endPeriods kinds s = s := by
  rw [endPeriods_eq_lapses]
  exact forList_of_idle fun x _ => Lapse.run_of_not_ends (h x)

/-- Where periods end at one turn alone, and that turn lets no other period end, all is done at that turn. -/
theorem endPeriods_of_only {kinds : List Period} {s : State} {y : Lapse} (only : ∀ x, x.Ends kinds s → x = y)
    (after : ∀ x, x.Ends kinds (y.run kinds s) → x ≠ y → x.Ends kinds s) :
    endPeriods kinds s = y.run kinds s := by
  rw [endPeriods_eq_lapses]
  refine forList_of_only (fun x hx => Lapse.run_of_not_ends (mt (only x) hx)) (fun x hx => ?_) lapses_nodup
    (mem_lapses y)
  exact Lapse.run_of_not_ends fun h => hx (only x (after x h hx))

/-- The turn of a carrier's period; the grace period is a rail's. -/
def Period.lapse (n : Site) : Period → Option Lapse
  | .dwell => some (.scheduler n)
  | .stale => some (.stale n)
  | .minAwake => some (.scheduler n)
  | .holdoff => some (.holdoff n)
  | .answer => some (.exchange n)
  | .drain => some (.exchange n)
  | .grace => none

theorem Lapse.Ends.period {kinds : List Period} {s : State} {x : Lapse} (h : x.Ends kinds s) :
    (∃ q m, Ended kinds s q m ∧ q.lapse m = some x) ∨ ∃ r, GraceEnded kinds s r ∧ x = .grace r := by
  cases x with
  | stale n => exact .inl ⟨.stale, n, h, rfl⟩
  | scheduler n => exact .inl (h.elim (fun h => ⟨.dwell, n, h, rfl⟩) fun h => ⟨.minAwake, n, h, rfl⟩)
  | exchange n => exact .inl (h.elim (fun h => ⟨.answer, n, h, rfl⟩) fun h => ⟨.drain, n, h, rfl⟩)
  | holdoff n => exact .inl ⟨.holdoff, n, h, rfl⟩
  | grace r => exact .inr ⟨r, h, rfl⟩

theorem endPeriods_of_idle {kinds : List Period} {s : State} (none : ∀ p n, ¬ Ended kinds s p n)
    (noGrace : ∀ r, ¬ GraceEnded kinds s r) : endPeriods kinds s = s := by
  refine endPeriods_of_none fun x hx => ?_
  obtain ⟨q, m, ended, -⟩ | ⟨r, ended, -⟩ := hx.period
  · exact none q m ended
  · exact noGrace r ended

/-- One grace period alone has ended. -/
theorem endPeriods_of_grace {kinds : List Period} {r : RailId} {s : State} (none : ∀ p n, ¬ Ended kinds s p n)
    (ended : GraceEnded kinds s r) (alone : ∀ q, GraceEnded kinds s q → q = r) :
    endPeriods kinds s = graceExpires r s := by
  rw [endPeriods_of_only (y := .grace r) (fun x hx => ?_) fun x => lapse_ends_of_grace]
  · exact if_pos (contains_and_iff.2 ended)
  · obtain ⟨q, m, other, -⟩ | ⟨q, other, hx⟩ := hx.period
    · exact absurd other (none q m)
    · rw [hx, alone q other]

/-- One period of a carrier alone has ended. -/
theorem endPeriods_of_alone {kinds : List Period} {p : Period} {n : Site} {y : Lapse} {s : State}
    (hl : LengthsOk (bank s)) (hy : p.lapse n = some y) (alone : ∀ q m, Ended kinds s q m → q = p ∧ m = n)
    (noGrace : ∀ r, ¬ GraceEnded kinds s r) : endPeriods kinds s = y.run kinds s := by
  have site : y.site ≠ none := by cases p <;> cases hy <;> exact nofun
  refine endPeriods_of_only (fun x hx => ?_) fun x hx _ => (Lapse.run_spares kinds site hl).lapse_ends hx
  obtain ⟨q, m, ended, hq⟩ | ⟨r, ended, -⟩ := hx.period
  · obtain ⟨rfl, rfl⟩ := alone q m ended
    exact Option.some.inj (hq.symm.trans hy)
  · exact absurd ended (noGrace r)

/-- That end is the period's own expiry command (R142). -/
theorem exec_command {kinds : List Period} {p : Period} {n : Site} {i : Instr} {s : State} (hs : SettingsOk s)
    (hi : p.command n = some i) (ended : Ended kinds s p n) (alone : ∀ q m, Ended kinds s q m → q = p ∧ m = n)
    (noGrace : ∀ r, ¬ GraceEnded kinds s r) : exec i s = .next (endPeriods kinds s) := by
  have only {y : Lapse} (hy : p.lapse n = some y) : endPeriods kinds s = y.run kinds s :=
    endPeriods_of_alone (lengthsOk_bank hs) hy alone noGrace
  have here : (kinds.contains p && p.reached s n) = true := contains_and_iff.2 ended
  have other {q : Period} (hq : q ≠ p) : (kinds.contains q && q.reached s n) = false :=
    contains_and_eq_false fun h => hq (alone q n h).1
  have due {b : Bool} {u v : State} (h : b = true) (hu : v = u) : Host.Outcome.next (φ := Fault) (ρ := Refusal)
      (if b then u else s) = .next v := by rw [h, hu]; rfl
  cases p <;> cases hi
  case dwell => exact due ended.2 ((only rfl).trans (schedulerEnds_of_dwell here (other (q := .minAwake) nofun)))
  case stale => exact due ended.2 ((only rfl).trans (if_pos here))
  case minAwake => exact due ended.2 ((only rfl).trans (schedulerEnds_of_minAwake (other (q := .dwell) nofun) here))
  case holdoff => exact due ended.2 ((only rfl).trans (if_pos here))
  case answer => exact due ended.2 ((only rfl).trans (if_pos here))
  case drain =>
    have undue := Bool.eq_false_iff.1 (other (q := .answer) nofun)
    exact due ended.2 ((only rfl).trans ((if_neg undue).trans (if_pos here)))

end Sys2Proof.Machine
end

/-! # A carrier while periods end

What the turns of the other carriers do to a record outside the offer queues, and what its own turns do: an exchange
whose timer has reached its length is withdrawn, and a dwell that has reached its length elapses. -/

section

namespace Sys2Proof.Machine

/-! ### The turns of other carriers -/

/-- What is known of carrier n, that changes of other records and the moves of the scheduler leave alone. -/
structure Undisturbed (n : Site) (P : State → Prop) : Prop where
  elsewhere : ∀ m (f : Carrier → Carrier) s, m ≠ n → P s → P (s.modCarrier m f)
  report : ∀ s t, ReportMove s t → P s → P t

theorem Undisturbed.or {n : Site} {P Q : State → Prop} (hP : Undisturbed n P) (hQ : Undisturbed n Q) :
    Undisturbed n fun s => P s ∨ Q s where
  elsewhere m f s hm h := h.imp (hP.elsewhere m f s hm) (hQ.elsewhere m f s hm)
  report s t move h := h.imp (hP.report s t move) (hQ.report s t move)

theorem Undisturbed.reports {n : Site} {P : State → Prop} (hP : Undisturbed n P) {s t : State} (h : ReportMoves s t)
    (hs : P s) : P t :=
  run_keeps hP.report h hs

/-- A withdrawal is one change of the record and the moves that follow it. -/
theorem withdraw_reports {n : Site} (why : Reason) {s : State} (h : (s.carrier n).power.inExchange = true) :
    ∃ f, ReportMoves (s.modCarrier n f) (withdraw n why s) :=
  ⟨_, (Relation.ReflTransGen.single (.schedules (.leaves n))).trans (withdraw_reportMoves why h)⟩

theorem staleExpires_active_reports {n : Site} {s : State} (h : (s.carrier n).power = .active) :
    ReportMoves (s.modCarrier n fun c => { c with staleTimer := none, stale := true, dwell := .absent })
      (staleExpires n s) := by
  rw [staleExpires_active h, staled_eq]
  have leaves {u : State} : ReportMoves u (unqueue n u) := .single (.schedules (.leaves n))
  split
  · exact leaves.trans (reevalDependents_schedulerMoves n _).reportMoves
  · exact leaves

theorem staleExpires_reports (n : Site) (s : State) : ∃ f, ReportMoves (s.modCarrier n f) (staleExpires n s) := by
  cases hp : (s.carrier n).power with
  | active => exact ⟨_, staleExpires_active_reports hp⟩
  | offered => rw [staleExpires_offered n s hp]; exact withdraw_reports .stale (by rw [hp]; rfl)
  | _ => simp only [staleExpires, hp]; exact ⟨_, .refl⟩

theorem reeval_reports (n : Site) (s : State) : ReportMoves s (reeval n s) := (reeval_schedulerMoves n s).reportMoves

/-- The scheduler's turn ends the dwell if it is due, may end the min-awake, and looks at the ripeness. -/
theorem schedulerEnds_reports (kinds : List Period) (n : Site) (s : State) : ∃ m, ReportMoves
    (s.modCarrier n fun c => { c with
      dwell := if kinds.contains .dwell && dwellDue s n then c.dwell.ended else c.dwell, minAwake := m })
    (schedulerEnds kinds n s) := by
  cases hd : kinds.contains .dwell && dwellDue s n <;> cases hm : kinds.contains .minAwake && minAwakeDue s n
  · rw [schedulerEnds_of_neither hd hm]
    exact ⟨(s.carrier n).minAwake, by rw [modCarrier_eq_self (by rfl)]⟩
  · obtain ⟨m, h⟩ := minAwakeEnds_eq n s
    rw [schedulerEnds_of_minAwake hd hm, h]
    exact ⟨m, reeval_reports n _⟩
  · rw [schedulerEnds_of_dwell hd hm, dwellEnds_eq_ended]
    refine ⟨(s.carrier n).minAwake, ?_⟩
    rw [modCarrier_congr (g := fun c => { c with dwell := c.dwell.ended }) (by rfl)]
    exact reeval_reports n _
  · obtain ⟨m, h⟩ := minAwakeEnds_eq n (dwellEnds n s)
    rw [schedulerEnds_of_both hd hm, h, dwellEnds_eq_ended, modCarrier_modCarrier]
    exact ⟨m, reeval_reports n _⟩

theorem answerExpires_reports (n : Site) (s : State) : ∃ f, ReportMoves (s.modCarrier n f) (answerExpires n s) := by
  by_cases h : (s.carrier n).power = .offered
  · rw [answerExpires_offered n s h]; exact withdraw_reports .timeout (by rw [h]; rfl)
  · rw [answerExpires, if_neg (by simp [h])]; exact ⟨_, .refl⟩

theorem drainExpires_reports (n : Site) (s : State) : ∃ f, ReportMoves (s.modCarrier n f) (drainExpires n s) := by
  by_cases h : (s.carrier n).power = .draining
  · rw [drainExpires_draining n s h]; exact withdraw_reports .timeout (by rw [h]; rfl)
  · rw [drainExpires, if_neg (by simp [h])]; exact ⟨_, .refl⟩

/-- Nothing happens to a record at a turn at which nothing is done. -/
theorem ite_reports {n : Site} {s t : State} (c : Prop) [Decidable c] (h : ∃ f, ReportMoves (s.modCarrier n f) t) :
    ∃ f, ReportMoves (s.modCarrier n f) (if c then t else s) := by
  split
  · exact h
  · exact ⟨id, by rw [modCarrier_eq_self (by rfl)]⟩

/-- A carrier's turn changes its own record and then makes moves of the scheduler. -/
theorem Lapse.run_reports (kinds : List Period) {x : Lapse} {n : Site} (hx : x.site = some n) (s : State) :
    ∃ f, ReportMoves (s.modCarrier n f) (x.run kinds s) := by
  cases x <;> cases hx
  case stale => exact ite_reports _ (staleExpires_reports n s)
  case scheduler => obtain ⟨m, h⟩ := schedulerEnds_reports kinds n s; exact ⟨_, h⟩
  case exchange =>
    rw [Lapse.run, exchangeEnds]
    split
    · exact answerExpires_reports n s
    · exact ite_reports _ (drainExpires_reports n s)
  case holdoff => exact ite_reports _ ⟨_, .refl⟩

theorem Lapse.run_moves (kinds : List Period) (x : Lapse) (s : State) : Moves s (x.run kinds s) := by
  have when {b : Bool} {u : State} (h : Moves s u) : Moves s (if b then u else s) := by
    cases b
    · exact .refl
    · exact h
  cases x with
  | stale n => exact when (staleExpires_moves n s)
  | scheduler n => exact schedulerEnds_moves kinds n s
  | exchange n => exact exchangeEnds_moves kinds n s
  | holdoff n => exact when (holdoffEnds_moves n s)
  | grace r => exact when (graceExpires_moves r s)

theorem graceExpires_apart (r : RailId) (s : State) : Apart s (graceExpires r s) := by
  rw [graceExpires]
  split
  · exact graceTest_apart r s
  · exact modRail_apart s r _

theorem Undisturbed.run {n : Site} {P : State → Prop} (hP : Undisturbed n P) {kinds : List Period} {x : Lapse}
    (hx : x.site ≠ some n) {s : State} (hs : P s) : P (x.run kinds s) := by
  cases hsite : x.site with
  | some m =>
    obtain ⟨f, h⟩ := Lapse.run_reports kinds hsite s
    exact hP.reports h (hP.elsewhere m f s (fun e => hx (e ▸ hsite)) hs)
  | none =>
    cases x <;> cases hsite
    rw [Lapse.run]
    split
    · rename_i r _
      have apart := graceExpires_apart r s
      exact hP.report _ _ (.rails apart.carriers apart.ports (graceExpires_moves r s).cascade) hs
    · exact hs

/-! ### A record outside the offer queues -/

/-- Record n meets R, and n is in no offer queue. -/
structure Outside (n : Site) (R : Carrier → Prop) (s : State) : Prop where
  record : R (s.carrier n)
  unqueued : Unqueued s n

/-- A condition that keeps a record neither asleep, nor waking, nor ripe, whatever its ripe time and its holdoff. -/
structure Unripening (R : Carrier → Prop) : Prop where
  awake : ∀ {c}, R c → c.power ≠ .asleep ∧ c.power ≠ .waking
  unripe : ∀ {c}, R c → c.power ≠ .active ∨ c.load = none ∨ c.stale = true ∨ c.dwell.isElapsed = false
  times : ∀ {c}, R c → ∀ r v, R { c with ripeTime := r, holdoff := v }

theorem Unripening.not_ripe {R : Carrier → Prop} (hR : Unripening R) {n : Site} {s : State} (h : R (s.carrier n)) :
    ripe s n = false :=
  not_ripe_of (.inr ((hR.unripe h).imp_right fun h => h.imp_right fun h => h.imp_right .inl))

theorem Unripening.undisturbed {R : Carrier → Prop} (hR : Unripening R) (n : Site) :
    Undisturbed n (Outside n R) where
  elsewhere m f s hm h := ⟨by rw [carrier_modCarrier_ne s f hm.symm]; exact h.record, h.unqueued⟩
  report s t move h := by
    obtain ⟨asleep, waking⟩ := hR.awake h.record
    refine ⟨?_, move.keeps_unqueued h.unqueued (hR.not_ripe h.record)⟩
    rcases move.record asleep waking with ⟨r, v, ht⟩ | ⟨⟨u, queued⟩, -⟩
    · rw [ht]; exact hR.times h.record r v
    · exact absurd queued (h.unqueued u)

theorem Outside.modCarrier {R R' : Carrier → Prop} {n : Site} {s : State} {f : Carrier → Carrier} (h : Outside n R s)
    (hf : R' (f (s.carrier n))) : Outside n R' (s.modCarrier n f) :=
  ⟨by rwa [carrier_modCarrier_same], h.unqueued⟩

/-! ### An exchange whose timer has reached its length -/

/-- A record as far in its exchange as c₀. -/
def AsFar (c₀ c : Carrier) : Prop :=
  c.power = c₀.power ∧ c.answerTimer = c₀.answerTimer ∧ c.drainTimer = c₀.drainTimer

/-- A record in ACTIVE and unseeded. -/
def Back (c : Carrier) : Prop := c.power = .active ∧ c.load = none

theorem unripening_asFar {c₀ : Carrier} (h₀ : c₀.power.inExchange = true) : Unripening (AsFar c₀) where
  awake h := by rw [h.1]; constructor <;> intro he <;> rw [he] at h₀ <;> cases h₀
  unripe h := .inl (by rw [h.1]; exact not_active_of_inExchange h₀)
  times h _ _ := h

theorem unripening_back : Unripening Back where
  awake h := by rw [h.1]; exact ⟨nofun, nofun⟩
  unripe h := .inr (.inl h.2)
  times h _ _ := h

theorem Outside.withdraw {R : Carrier → Prop} {n : Site} {s : State} (h : Outside n R s) (why : Reason)
    (hx : (s.carrier n).power.inExchange = true) : Outside n Back (withdraw n why s) := by
  refine (unripening_back.undisturbed n).reports (withdraw_reportMoves why hx) ⟨?_, fun u hu => ?_⟩
  · rw [carrier_enterActive_same]; exact ⟨rfl, rfl⟩
  · exact h.unqueued u (mem_offerQueue_of_enterActive hu)

/-- A change made on a condition keeps what holds either way. -/
theorem ite_keeps {P : State → Prop} {s t : State} (c : Prop) [Decidable c] (hs : P s) (ht : P t) :
    P (if c then t else s) := by
  split
  · exact ht
  · exact hs

/-- The scheduler's turn writes dwell and min-awake only of a carrier that is not ripe. -/
theorem Outside.schedulerEnds {R : Carrier → Prop} (hR : Unripening R) {n : Site} {s : State} (h : Outside n R s)
    (keep : ∀ c d m, R c → R { c with dwell := d, minAwake := m }) (kinds : List Period) :
    Outside n R (schedulerEnds kinds n s) := by
  obtain ⟨m, moves⟩ := schedulerEnds_reports kinds n s
  exact (hR.undisturbed n).reports moves (h.modCarrier (keep _ _ m h.record))

/-- The exchange's turn stops timers only, where it withdraws nothing. -/
theorem exchangeEnds_of_kept {kinds : List Period} {n : Site} {s : State}
    (offered : (s.carrier n).power = .offered → (kinds.contains .answer && answerDue s n) = false)
    (draining : (s.carrier n).power ≠ .draining) :
    ∃ a d, ((s.carrier n).power = .offered → a = (s.carrier n).answerTimer) ∧
      exchangeEnds kinds n s = s.modCarrier n fun c => { c with answerTimer := a, drainTimer := d } := by
  rw [exchangeEnds]
  split
  · rename_i ha
    have other : (s.carrier n).power ≠ .offered := fun h => Bool.eq_false_iff.1 (offered h) ha
    rw [answerExpires, if_neg (by simp [other])]
    exact ⟨none, (s.carrier n).drainTimer, fun h => absurd h other, modCarrier_congr rfl⟩
  · split
    · rw [drainExpires, if_neg (by simp [draining])]
      exact ⟨(s.carrier n).answerTimer, none, fun _ => rfl, modCarrier_congr rfl⟩
    · exact ⟨(s.carrier n).answerTimer, (s.carrier n).drainTimer, fun _ => rfl, (modCarrier_eq_self rfl).symm⟩

theorem exchangeEnds_of_active {kinds : List Period} {n : Site} {s : State} (h : (s.carrier n).power = .active) :
    ∃ a d, exchangeEnds kinds n s = s.modCarrier n fun c => { c with answerTimer := a, drainTimer := d } := by
  obtain ⟨a, d, -, h⟩ := exchangeEnds_of_kept (kinds := kinds) (n := n) (s := s)
    (fun he => by rw [h] at he; cases he) (by rw [h]; exact nofun)
  exact ⟨a, d, h⟩

/-- A carrier that is back stays so at every turn. -/
theorem Outside.back_run {n : Site} {s : State} (h : Outside n Back s) (kinds : List Period) (x : Lapse) :
    Outside n Back (x.run kinds s) := by
  by_cases hx : x.site = some n
  · match x, hx with
    | .stale _, rfl =>
      refine ite_keeps _ h ?_
      refine (unripening_back.undisturbed n).reports (staleExpires_active_reports h.record.1) ?_
      exact h.modCarrier h.record
    | .scheduler _, rfl => exact h.schedulerEnds unripening_back (fun _ _ _ hc => hc) kinds
    | .exchange _, rfl =>
      obtain ⟨a, d, he⟩ := exchangeEnds_of_active (kinds := kinds) h.record.1
      rw [Lapse.run, he]
      exact h.modCarrier h.record
    | .holdoff _, rfl => exact ite_keeps _ h (h.modCarrier h.record)
  · exact (unripening_back.undisturbed n).run hx h

/-- A carrier in its exchange with the timer of its phase at its length. -/
def Overdue (kinds : List Period) (n : Site) (s : State) : Prop :=
  (s.carrier n).power = .offered ∧ Ended kinds s .answer n ∨
    (s.carrier n).power = .draining ∧ (s.carrier n).answerTimer = none ∧ Ended kinds s .drain n

theorem Overdue.inExchange {kinds : List Period} {n : Site} {s : State} (h : Overdue kinds n s) :
    (s.carrier n).power.inExchange = true :=
  (inExchange_iff _).2 (h.imp And.left And.left)

theorem exchangeEnds_of_overdue {kinds : List Period} {n : Site} {s : State} (h : Overdue kinds n s) :
    exchangeEnds kinds n s = withdraw n .timeout s := by
  obtain ⟨hp, ended⟩ | ⟨hp, stopped, ended⟩ := h
  · rw [exchangeEnds, if_pos (contains_and_iff (b := answerDue s n).2 ended), answerExpires_offered n s hp]
  · have undue : answerDue s n = false := by rw [answerDue, stopped]; rfl
    rw [exchangeEnds, if_neg (by simp [undue]), if_pos (contains_and_iff (b := drainDue s n).2 ended),
      drainExpires_draining n s hp]

theorem Overdue.of_asFar {kinds : List Period} {n : Site} {s t : State} (h : Overdue kinds n s) (k : Cascade s t)
    (same : AsFar (s.carrier n) (t.carrier n)) : Overdue kinds n t := by
  obtain ⟨power, answer, drain⟩ := same
  refine h.imp (fun ⟨hp, hk, hr⟩ => ⟨power.trans hp, hk, ?_⟩)
    fun ⟨hp, stopped, hk, hr⟩ => ⟨power.trans hp, answer.trans stopped, hk, ?_⟩
  · rw [Period.reached_eq] at hr ⊢
    rwa [k.bank, k.due, Period.timer, answer]
  · rw [Period.reached_eq] at hr ⊢
    rwa [k.bank, k.due, Period.timer, drain]

/-- A carrier in its exchange, its timer at its length, stays as far or comes back at every turn. -/
theorem Outside.asFar_run {c₀ : Carrier} {kinds : List Period} {n : Site} {s : State} (h : Outside n (AsFar c₀) s)
    (overdue : Overdue kinds n s) (x : Lapse) :
    Outside n (AsFar c₀) (x.run kinds s) ∨ Outside n Back (x.run kinds s) := by
  have unripening : Unripening (AsFar c₀) := unripening_asFar (by rw [← h.record.1]; exact overdue.inExchange)
  by_cases hx : x.site = some n
  · match x, hx with
    | .stale _, rfl =>
      refine ite_keeps (P := fun u => Outside n (AsFar c₀) u ∨ Outside n Back u) _ (.inl h) ?_
      rcases (inExchange_iff _).1 overdue.inExchange with hp | hp
      · rw [staleExpires_offered n s hp]
        exact .inr (h.withdraw .stale overdue.inExchange)
      · simp only [staleExpires, hp]
        exact .inl (h.modCarrier h.record)
    | .scheduler _, rfl => exact .inl (h.schedulerEnds unripening (fun _ _ _ hc => hc) kinds)
    | .exchange _, rfl =>
      rw [Lapse.run, exchangeEnds_of_overdue overdue]
      exact .inr (h.withdraw .timeout overdue.inExchange)
    | .holdoff _, rfl =>
      exact ite_keeps (P := fun u => Outside n (AsFar c₀) u ∨ Outside n Back u) _ (.inl h)
        (.inl (h.modCarrier h.record))
  · exact .inl ((unripening.undisturbed n).run hx h)

/-- After the ends of periods a carrier whose exchange was overdue is back (R69, R70, R142). -/
theorem endPeriods_brings_back {kinds : List Period} {n : Site} {s : State} (hc : CarriersOk s)
    (overdue : Overdue kinds n s) : Outside n Back (endPeriods kinds s) := by
  let P (u : State) : Prop := Cascade s u ∧ (Outside n (AsFar (s.carrier n)) u ∨ Outside n Back u)
  have turn (x : Lapse) (u : State) (hu : P u) : P (x.run kinds u) := by
    obtain ⟨cascade, far | back⟩ := hu
    · exact ⟨cascade.trans (x.run_moves kinds u).cascade, far.asFar_run (overdue.of_asFar cascade far.record) x⟩
    · exact ⟨cascade.trans (x.run_moves kinds u).cascade, .inr (back.back_run kinds x)⟩
  have own (u : State) (hu : P u) : Outside n Back ((Lapse.exchange n).run kinds u) := by
    obtain ⟨cascade, far | back⟩ := hu
    · have late := overdue.of_asFar cascade far.record
      rw [Lapse.run, exchangeEnds_of_overdue late]
      exact far.withdraw .timeout late.inExchange
    · exact back.back_run kinds (.exchange n)
  have start : Outside n (AsFar (s.carrier n)) s :=
    ⟨⟨rfl, rfl, rfl⟩, unqueued_of_power hc (not_active_of_inExchange overdue.inExchange)⟩
  rw [endPeriods_eq_lapses]
  exact forList_reaches (x := .exchange n) turn own (fun x _ _ back => back.back_run kinds x) lapses s
    ⟨.refl s, .inl start⟩ (.inl (mem_lapses _))

/-! ### A dwell that has reached its length -/

/-- A record in ACTIVE whose dwell runs. -/
def Dwelling (st : Time) (c : Carrier) : Prop := c.power = .active ∧ c.dwell = .running st

/-- A record in ACTIVE that is stale and has no dwell. -/
def WentStale (c : Carrier) : Prop := c.power = .active ∧ c.stale = true ∧ c.dwell = .absent

theorem unripening_dwelling (st : Time) : Unripening (Dwelling st) where
  awake h := by rw [h.1]; exact ⟨nofun, nofun⟩
  unripe h := .inr (.inr (.inr (by rw [h.2]; rfl)))
  times h _ _ := h

theorem unripening_wentStale : Unripening WentStale where
  awake h := by rw [h.1]; exact ⟨nofun, nofun⟩
  unripe h := .inr (.inr (.inl h.2.1))
  times h _ _ := h

/-- The dwell of carrier n has elapsed, or n was offered at this moment. -/
def DwellPast (n : Site) (st : Time) (s : State) : Prop :=
  (s.carrier n).power = .active ∧ (s.carrier n).dwell = .elapsed st ∨
    (s.carrier n).power = .offered ∧ (s.carrier n).dwell = .absent ∧ (s.carrier n).answerTimer = some s.now

theorem dwellPast_undisturbed (n : Site) (st : Time) : Undisturbed n (DwellPast n st) where
  elsewhere m f s hm h := by
    rw [DwellPast, carrier_modCarrier_ne s f hm.symm]
    exact h
  report s t move h := by
    have awake : (s.carrier n).power ≠ .asleep ∧ (s.carrier n).power ≠ .waking := by
      rcases h with ⟨hp, -⟩ | ⟨hp, -⟩ <;> rw [hp] <;> exact ⟨nofun, nofun⟩
    rw [DwellPast, move.cascade.now]
    rcases move.record awake.1 awake.2 with ⟨r, v, ht⟩ | ⟨-, ht⟩ <;> rw [ht]
    · exact h
    · exact .inr ⟨rfl, rfl, rfl⟩

/-- While the stale timers end: the dwell runs, or the carrier went stale. -/
abbrev DwellsOn (n : Site) (st : Time) (s : State) : Prop := Outside n (Dwelling st) s ∨ Outside n WentStale s

/-- From the scheduler's turn on: the dwell has elapsed, an offer has followed, or the carrier went stale. -/
abbrev DwellDone (n : Site) (st : Time) (s : State) : Prop := DwellPast n st s ∨ Outside n WentStale s

theorem dwellsOn_undisturbed (n : Site) (st : Time) : Undisturbed n (DwellsOn n st) :=
  ((unripening_dwelling st).undisturbed n).or (unripening_wentStale.undisturbed n)

theorem dwellDone_undisturbed (n : Site) (st : Time) : Undisturbed n (DwellDone n st) :=
  (dwellPast_undisturbed n st).or (unripening_wentStale.undisturbed n)

theorem DwellsOn.stale_run {n : Site} {st : Time} {s : State} (h : DwellsOn n st s) (kinds : List Period) (m : Site) :
    DwellsOn n st ((Lapse.stale m).run kinds s) := by
  by_cases hm : m = n
  · subst hm
    obtain ⟨active, unqueued⟩ : (s.carrier m).power = .active ∧ Unqueued s m :=
      h.elim (fun h => ⟨h.record.1, h.unqueued⟩) fun h => ⟨h.record.1, h.unqueued⟩
    refine ite_keeps (P := DwellsOn m st) _ h (.inr ?_)
    refine (unripening_wentStale.undisturbed m).reports (staleExpires_active_reports active) ⟨?_, unqueued⟩
    rw [carrier_modCarrier_same]
    exact ⟨active, rfl, rfl⟩
  · exact (dwellsOn_undisturbed n st).run (x := .stale m) (fun e => hm (Option.some.inj e)) h

theorem dwellDue_of_not_running {n : Site} {s : State} (h : (s.carrier n).dwell.runningSince = none) :
    dwellDue s n = false := by
  rw [dwellDue, h]; rfl

/-- The scheduler's turn of a carrier without a running dwell writes its min-awake only. -/
theorem schedulerEnds_reports_of_not_running {n : Site} {s : State} (h : (s.carrier n).dwell.runningSince = none)
    (kinds : List Period) :
    ∃ m, ReportMoves (s.modCarrier n fun c => { c with minAwake := m }) (schedulerEnds kinds n s) := by
  obtain ⟨m, moves⟩ := schedulerEnds_reports kinds n s
  simp only [dwellDue_of_not_running h, Bool.and_false, Bool.false_eq_true, if_false] at moves
  exact ⟨m, moves⟩

theorem DwellDone.scheduler_run {n : Site} {st : Time} {s : State} (h : DwellDone n st s) (kinds : List Period)
    (m : Site) : DwellDone n st ((Lapse.scheduler m).run kinds s) := by
  by_cases hm : m = n
  · subst hm
    have still : (s.carrier m).dwell.runningSince = none := by
      rcases h with (⟨-, hd⟩ | ⟨-, hd, -⟩) | ⟨⟨-, -, hd⟩, -⟩ <;> rw [hd] <;> rfl
    obtain ⟨a, moves⟩ := schedulerEnds_reports_of_not_running still kinds
    refine (dwellDone_undisturbed m st).reports moves
      (h.imp (fun past => ?_) fun stale => stale.modCarrier stale.record)
    rw [DwellPast, carrier_modCarrier_same]
    exact past
  · exact (dwellDone_undisturbed n st).run (x := .scheduler m) (fun e => hm (Option.some.inj e)) h

/-- The scheduler's own turn ends a dwell that has reached its length (R50). -/
theorem DwellsOn.own_scheduler_run {n : Site} {st : Time} {s : State} {kinds : List Period} (h : DwellsOn n st s)
    (ended : (s.carrier n).dwell = .running st → (kinds.contains .dwell && dwellDue s n) = true) :
    DwellDone n st ((Lapse.scheduler n).run kinds s) := by
  rcases h with dwelling | stale
  · obtain ⟨active, running⟩ := dwelling.record
    obtain ⟨m, moves⟩ := schedulerEnds_reports kinds n s
    refine (dwellDone_undisturbed n st).reports moves (.inl (.inl ?_))
    rw [carrier_modCarrier_same, ended running, running]
    exact ⟨active, rfl⟩
  · exact DwellDone.scheduler_run (.inr stale) kinds n

theorem DwellDone.exchange_run {n : Site} {st : Time} {s : State} (h : DwellDone n st s) (hl : LengthsOk (bank s))
    (kinds : List Period) (m : Site) : DwellDone n st ((Lapse.exchange m).run kinds s) := by
  by_cases hm : m = n
  · subst hm
    rw [Lapse.run]
    rcases h with (⟨active, elapsed⟩ | ⟨offered, absent, starts⟩) | stale
    · obtain ⟨a, d, he⟩ := exchangeEnds_of_active (kinds := kinds) active
      rw [he, DwellDone, DwellPast, carrier_modCarrier_same]
      exact .inl (.inl ⟨active, elapsed⟩)
    · have undue : answerDue s m = false := by rw [answerDue, starts]; exact due_now hl.1
      obtain ⟨a, d, ha, he⟩ := exchangeEnds_of_kept (kinds := kinds) (n := m) (s := s)
        (fun _ => by rw [undue, Bool.and_false]) (by rw [offered]; exact nofun)
      rw [he, DwellDone, DwellPast, carrier_modCarrier_same]
      exact .inl (.inr ⟨offered, absent, (ha offered).trans starts⟩)
    · obtain ⟨a, d, he⟩ := exchangeEnds_of_active (kinds := kinds) stale.record.1
      rw [he]
      exact .inr (stale.modCarrier stale.record)
  · exact (dwellDone_undisturbed n st).run (x := .exchange m) (fun e => hm (Option.some.inj e)) h

theorem DwellDone.holdoff_run {n : Site} {st : Time} {s : State} (h : DwellDone n st s) (kinds : List Period)
    (m : Site) : DwellDone n st ((Lapse.holdoff m).run kinds s) := by
  by_cases hm : m = n
  · subst hm
    refine ite_keeps (P := DwellDone m st) _ h (h.imp (fun past => ?_) fun stale => stale.modCarrier stale.record)
    rw [DwellPast, holdoffEnds, carrier_modCarrier_same]
    exact past
  · exact (dwellDone_undisturbed n st).run (x := .holdoff m) (fun e => hm (Option.some.inj e)) h

/-- A block of turns, one for each site. -/
def Lapse.block (kinds : List Period) (turn : Site → Lapse) (s : State) : State :=
  forSites (fun m => (turn m).run kinds) s

theorem endPeriods_eq_blocks (kinds : List Period) (s : State) : endPeriods kinds s =
    forRails (fun r => (Lapse.grace r).run kinds) (Lapse.block kinds .holdoff (Lapse.block kinds .exchange
      (Lapse.block kinds .scheduler (Lapse.block kinds .stale s)))) := rfl

/-- A block of turns is a cascade, and keeps what every turn keeps. -/
theorem block_keeps {kinds : List Period} {turn : Site → Lapse} {s u : State} (P : State → Prop)
    (keep : ∀ m v, Cascade s v → P v → P ((turn m).run kinds v)) (k : Cascade s u) (h : P u) :
    Cascade s (Lapse.block kinds turn u) ∧ P (Lapse.block kinds turn u) :=
  forSites_induction (fun v => Cascade s v ∧ P v) _
    (fun m v hv => ⟨hv.1.trans ((turn m).run_moves kinds v).cascade, keep m v hv.1 hv.2⟩) u ⟨k, h⟩

/-- The scheduler's block ends the dwell at the carrier's own turn, whatever the turns before it do. -/
theorem DwellsOn.scheduler_block {kinds : List Period} {n : Site} {st : Time} {u : State} (h : DwellsOn n st u)
    (due : ∀ v, Cascade u v → (v.carrier n).dwell = .running st → (kinds.contains .dwell && dwellDue v n) = true) :
    DwellDone n st (Lapse.block kinds .scheduler u) := by
  let P (v : State) : Prop := Cascade u v ∧ (DwellsOn n st v ∨ DwellDone n st v)
  have own (v : State) (hv : P v) : DwellDone n st ((Lapse.scheduler n).run kinds v) :=
    hv.2.elim (fun h => h.own_scheduler_run (due v hv.1)) fun h => h.scheduler_run kinds n
  have turn (m : Site) (v : State) (hv : P v) : P ((Lapse.scheduler m).run kinds v) := by
    refine ⟨hv.1.trans (Lapse.run_moves kinds _ v).cascade, ?_⟩
    by_cases hm : m = n
    · subst hm; exact .inr (own v hv)
    · exact ((dwellsOn_undisturbed n st).or (dwellDone_undisturbed n st)).run (x := .scheduler m)
        (fun e => hm (Option.some.inj e)) hv.2
  exact forList_reaches (x := n) turn own (fun m _ _ h => h.scheduler_run kinds m) allSites u ⟨.refl u, .inl h⟩
    (.inl (mem_allSites n))

/-- After the ends of periods a dwell that had reached its length has elapsed, unless the carrier was offered or went
stale (R50, R142). -/
theorem endPeriods_ends_dwell {kinds : List Period} {n : Site} {st : Time} {s : State} (hs : SettingsOk s)
    (start : Outside n (Dwelling st) s) (ended : Ended kinds s .dwell n) : DwellDone n st (endPeriods kinds s) := by
  have lengths {u : State} (k : Cascade s u) : LengthsOk (bank u) := by rw [k.bank]; exact lengthsOk_bank hs
  have due {u : State} (k : Cascade s u) (running : (u.carrier n).dwell = .running st) :
      (kinds.contains .dwell && dwellDue u n) = true := by
    refine contains_and_iff.2 ⟨ended.1, ?_⟩
    rw [dwellDue, k.bank, k.due, running, ← start.record.2]
    exact ended.2
  obtain ⟨k, dwells⟩ := block_keeps (turn := .stale) (kinds := kinds) (DwellsOn n st)
    (fun m _ _ h => h.stale_run kinds m) (.refl s) (.inl start)
  have done := dwells.scheduler_block (kinds := kinds) fun v kv => due (k.trans kv)
  obtain ⟨k, -⟩ := block_keeps (turn := .scheduler) (kinds := kinds) (fun _ => True) (fun _ _ _ _ => trivial) k trivial
  obtain ⟨k, done⟩ := block_keeps (turn := .exchange) (kinds := kinds) (DwellDone n st)
    (fun m _ k h => h.exchange_run (lengths k) kinds m) k done
  obtain ⟨k, done⟩ := block_keeps (turn := .holdoff) (kinds := kinds) (DwellDone n st)
    (fun m _ _ h => h.holdoff_run kinds m) k done
  rw [endPeriods_eq_blocks]
  exact forRails_induction (DwellDone n st) _
    (fun r _ h => (dwellDone_undisturbed n st).run (x := .grace r) nofun h) _ done

end Sys2Proof.Machine
end

/-! # SELECT_BANK and SET_BANK_PARAM -/

section

namespace Sys2Proof.Machine

/-! ### SELECT_BANK -/

theorem exec_selectBank (code : Nat) (s : State) :
    exec (.selectBank code) s = .next (respond (selectBankRule code s)) := rfl

theorem modeOf_eq_none {code : Nat} (h : 2 < code) : modeOf code = none := by
  match code, h with
  | _ + 3, _ => rfl

theorem modeOf_code (m : BankMode) : modeOf m.code = some m := by cases m <;> rfl

theorem rebank_of_same {before : Fin 2} {s : State} (h : selectedBank s = before) : rebank before s = s := if_pos h

theorem rebank_of_changed {before : Fin 2} {s : State} (h : selectedBank s ≠ before) :
    rebank before s = endPeriods allPeriods s := if_neg h

/-- An offer or a drain whose timer has reached its length is overdue: a DRAINING record runs no answer timer (R61). -/
theorem overdue_of_ended {kinds : List Period} {n : Site} {s : State} (hc : CarriersOk s)
    (h : (s.carrier n).power = .offered ∧ Ended kinds s .answer n ∨
      (s.carrier n).power = .draining ∧ Ended kinds s .drain n) : Overdue kinds n s := by
  refine h.imp_right fun ⟨draining, ended⟩ => ⟨draining, ?_, ended⟩
  obtain ⟨-, -, -, answers, -⟩ := hc.record n
  rw [draining] at answers
  simpa using answers

/-- A carrier whose dwell runs is not ripe, and so is in no queue (R52, R54). -/
theorem outside_of_dwelling {n : Site} {st : Time} {s : State} (hc : CarriersOk s) (hr : RipeOk s)
    (h : (s.carrier n).dwell = .running st) : Outside n (Dwelling st) s := by
  obtain ⟨active, -⟩ := (hc.record n).of_dwell (by rw [h]; exact nofun)
  have record : Dwelling st (s.carrier n) := ⟨active, h⟩
  refine ⟨record, fun u queued => ?_⟩
  obtain ⟨-, ripe⟩ := (hr u n).1 queued
  rw [(unripening_dwelling st).not_ripe record] at ripe
  cases ripe

/-- Settles O27: the ends of periods turn by turn, then the selection itself. -/
theorem selectBankSelects : Obligations.SelectBankSelects := by
  refine ⟨fun kinds s => ⟨fun none noGrace => endPeriods_of_idle none noGrace,
    fun p n i hs hi ended alone noGrace => exec_command hs hi ended alone noGrace, fun r none ended alone => ?_,
    fun hc n h => (endPeriods_brings_back hc (overdue_of_ended hc h)).record, fun hs hc hr n st running ended => ?_⟩,
    fun code s => ⟨fun h => ?_, fun m hm => ?_⟩⟩
  · rw [endPeriods_of_grace none ended alone]
    exact congrArg Host.Outcome.next (if_pos ended.2)
  · have done := endPeriods_ends_dwell hs (outside_of_dwelling hc hr running) ended
    rcases done with (⟨-, elapsed⟩ | ⟨offered, absent, -⟩) | ⟨⟨-, stale, absent⟩, -⟩
    · exact .inl elapsed
    · exact .inr ⟨absent, .inl offered⟩
    · exact .inr ⟨absent, .inr stale⟩
  · rw [exec_selectBank, selectBankRule, modeOf_eq_none h]
  · intro s'
    have cascade := (rebank_moves (selectedBank s) s').cascade
    refine ⟨rebank (selectedBank s) s', ?_, cascade.banks, cascade, cascade.selectedBank.trans ?_, rebank_of_same,
      rebank_of_changed⟩
    · rw [exec_selectBank, selectBankRule, hm, modeOf_code]
    · cases m <;> rfl

/-! ### SET_BANK_PARAM -/

theorem exec_setBankParam (bk code v : Nat) (s : State) :
    exec (.setBankParam bk code v) s = .next (respond (setBankParamRule bk code v s)) := rfl

theorem param_withParam_same (b : Bank) {code : Nat} (v : Nat) (h : code < 12) :
    (b.withParam code v).param code = some v := by
  interval_cases code <;> rfl

theorem param_withParam_ne (b : Bank) {code other : Nat} (v : Nat) (h : other ≠ code) :
    (b.withParam code v).param other = b.param other := by
  unfold Bank.withParam
  split
  case h_13 => rfl
  all_goals unfold Bank.param; split <;> trivial

/-- The third check of R139 fails. -/
theorem thresholdsOrdered_eq_false (b : Bank) (code v : Nat) : thresholdsOrdered b code v = false ↔
    code = 2 ∧ b.busyThreshold ≤ v ∨ code = 3 ∧ v ≤ b.sleepThreshold := by
  unfold thresholdsOrdered
  split
  · simp
  · simp
  · rename_i h2 h3
    exact ⟨nofun, fun h => h.elim (fun h => (h2 h.1).elim) fun h => (h3 h.1).elim⟩

theorem paramPeriods_of_report {code : Nat} (h : code < 5) : paramPeriods code = [] := by
  interval_cases code <;> rfl

/-- No period is of no kind. -/
theorem endPeriods_nil (s : State) : endPeriods [] s = s :=
  endPeriods_of_idle (fun _ _ h => nomatch h.1) fun _ h => nomatch h.1

theorem setBankParamRule_noSuch {bk code : Nat} (h : 2 ≤ bk ∨ 12 ≤ code) (v : Nat) (s : State) :
    setBankParamRule bk code v s = refuse .noSuch s := by
  rw [setBankParamRule]
  split
  · exact if_pos (h.resolve_left (by omega))
  · rfl

theorem setBankParamRule_known {b : Fin 2} {code : Nat} (hc : code < 12) (v : Nat) (s : State) :
    setBankParamRule b.val code v s =
      if v < (paramRange code).1 ∨ (paramRange code).2 < v then refuse .badField s
      else if code = 2 ∧ s.banks.bank[b].busyThreshold ≤ v ∨ code = 3 ∧ v ≤ s.banks.bank[b].sleepThreshold then
        refuse .badField s
      else answerOk (writeParam b code v s) := by
  rw [setBankParamRule, dif_pos b.isLt, if_neg (Nat.not_le.2 hc)]
  simp only [← thresholdsOrdered_eq_false, Bool.or_eq_true, decide_eq_true_eq, Bool.not_eq_true']
  rfl

/-- The state in which the one value is written, before any period ends (R139). -/
def paramWritten (b : Fin 2) (code v : Nat) (s : State) : State :=
  { s with banks := { s.banks with bank := s.banks.bank.set b (s.banks.bank[b].withParam code v) } }

theorem writeParam_eq (b : Fin 2) (code v : Nat) (s : State) : writeParam b code v s =
    if selectedBank s = b ∧ s.banks.bank[b].param code ≠ some v then
      endPeriods (paramPeriods code) (paramWritten b code v s)
    else paramWritten b code v s := by
  simp only [writeParam, Bool.and_eq_true, decide_eq_true_eq, bne_iff_ne]
  rfl

/-- Settles O26: the checks in their order, then the one value written. -/
theorem setBankParamChecksAndWrites : Obligations.SetBankParamChecksAndWrites := by
  refine ⟨rfl, rfl, fun bk code v s => ⟨fun h => ?_, fun b hb hc => ?_⟩⟩
  · rw [exec_setBankParam, setBankParamRule_noSuch h]
  · intro old
    rw [exec_setBankParam, hb, setBankParamRule_known hc]
    split
    · rfl
    · split
      · rfl
      · refine ⟨old.withParam code v, param_withParam_same old v hc, fun other => param_withParam_ne old v, ?_,
          fun report => ?_⟩
        · rw [writeParam_eq]
          rfl
        · rw [paramPeriods_of_report report, endPeriods_nil]

end Sys2Proof.Machine
end

/-! # The idle step, and what power-on reset leaves in the units -/

section

namespace Sys2Proof.Machine

/-! ### The step on an empty queue -/

theorem step_of_command {s : State} {i : Instr} (h : s.pending = []) (hi : idleCommand s = some i) :
    step s = exec i (countRead i s) := by
  simp only [step, h, hi]

theorem step_of_tick {s : State} (h : s.pending = []) (hi : idleCommand s = none) : step s = .next (idleTick s) := by
  simp only [step, h, hi]

theorem idleCommand_of_expiry {s : State} {i : Instr} (h : nextExpiry s = some i) : idleCommand s = some i := by
  simp only [idleCommand, h]

theorem idleCommand_of_none {s : State} (h : nextExpiry s = none) :
    idleCommand s = if s.clock.subTicks + 1 < 1000 then none else some .secondsEvent := by
  simp only [idleCommand, h]

/-- Settles O2, by what is due. -/
theorem idleStepLetsTimePass : Obligations.IdleStepLetsTimePass := by
  refine fun s idle => ⟨fun i expiry => step_of_command idle (idleCommand_of_expiry expiry), fun none tick => ?_,
    fun none second => ?_⟩
  · exact step_of_tick idle ((idleCommand_of_none none).trans (if_pos tick))
  · exact step_of_command idle ((idleCommand_of_none none).trans (if_neg (Nat.not_lt.2 second)))

/-! ### Power-on reset -/

theorem compare_reset (level : Bool) (now : Time) :
    (Line.reset level).compare now = ⟨false, level, false, if level then some now else none⟩ := by
  cases level <;> rfl

/-- A power-on reset ends in the reset values, the debounce timer of a line that is held active having started. -/
theorem powerOnReset_eq_compared (addr : Nat) (s : State) : powerOnReset addr s = { resetState addr s with
    inputs := ⟨(Line.reset s.inputs.holdIn.level).compare 0, (Line.reset s.inputs.sourceIn.level).compare 0, 1,
      false⟩ } := by
  have hold := recheckLine_of_not_due (which := .holdIn) (s := resetState addr s)
    (debounceDue_compare_reset .holdIn s.inputs.holdIn.level rfl rfl)
  have source := recheckLine_of_not_due (which := .sourceIn) (s := recheckLine .holdIn (resetState addr s))
    (debounceDue_compare_reset .sourceIn s.inputs.sourceIn.level (by rw [hold]; rfl) (by rw [hold]; rfl))
  rw [powerOnReset_eq, source, hold]
  rfl

theorem resetState_powerGood (addr : Nat) (s : State) (r : RailId) :
    ((resetState addr s).rail r).powerGood = (s.rail r).powerGood := by
  fin_cases r <;> rfl

/-- Settles O4, unit by unit. -/
theorem powerOnResetUnits : Obligations.PowerOnResetUnits := by
  intro addr s haddr
  have reset := powerOnReset_eq_compared addr s
  rw [compare_reset, compare_reset] at reset
  refine ⟨_, congrArg Host.Outcome.next reset, ⟨rfl, rfl, rfl, rfl, rfl, fun w => ?_⟩, ⟨rfl, rfl, rfl, rfl⟩,
    ⟨rfl, rfl, rfl, rfl⟩, rfl, rfl, rfl, resetState_powerGood addr s, fun u => ?_, fun k => ?_, rfl, ?_, rfl⟩
  · exact Vector.getElem_replicate ..
  · cases u <;> rfl
  · exact Vector.getElem_replicate ..
  · change Mgmt.reset addr s.mgmt.sclHigh = _
    rw [Mgmt.reset, Nat.mod_eq_of_lt haddr]

end Sys2Proof.Machine
end

/-! # Clock, stand-down latch and input lines -/

section

namespace Sys2Proof.Machine

/-! ### The clock's requests -/

theorem exec_setTime (tod : Nat) (s : State) : exec (.setTime tod) s = .next (respond (setTimeRule tod s)) := rfl

theorem exec_setWindow (window enabled start stop : Nat) (s : State) :
    exec (.setWindow window enabled start stop) s = .next (respond (setWindowRule window enabled start stop s)) := rfl

theorem flagOf_eq {code : Nat} (h : code ≤ 1) : flagOf code = some (code == 1) := by
  interval_cases code <;> rfl

theorem flagOf_eq_none {code : Nat} (h : 1 < code) : flagOf code = none := by
  match code, h with
  | _ + 2, _ => rfl

theorem setWindowRule_of_enable (w : Fin 2) {enabled : Nat} (h : enabled ≤ 1) (start stop : Nat) (s : State) :
    setWindowRule w enabled start stop s =
      if start ≤ 1439 ∧ stop ≤ 1439 then
        answerOk (renight (night s) .window
          { s with clock := { s.clock with windows := s.clock.windows.set w ⟨enabled == 1, start, stop⟩ } })
      else refuse .badField s := by
  rw [setWindowRule, dif_pos w.isLt, flagOf_eq h]
  simp only [Bool.and_eq_true, decide_eq_true_eq]

theorem setWindowRule_badField {window enabled start stop : Nat} (hw : window < 2)
    (h : 1 < enabled ∨ 1439 < start ∨ 1439 < stop) (s : State) :
    setWindowRule window enabled start stop s = refuse .badField s := by
  by_cases he : 1 < enabled
  · rw [setWindowRule, dif_pos hw, flagOf_eq_none he]
  · exact (setWindowRule_of_enable ⟨window, hw⟩ (Nat.not_lt.1 he) start stop s).trans (if_neg (by omega))

/-- Settles O22, request by request. -/
theorem clockRequests : Obligations.ClockRequests := by
  refine ⟨fun tod s => ⟨fun h => ?_, fun h => ?_⟩, fun window enabled start stop s => ⟨fun h => ?_, fun hw h => ?_,
    fun w hw he hstart hstop => ?_⟩, fun _ _ => rfl⟩
  · rw [exec_setTime, setTimeRule, if_neg (Nat.not_lt.2 h)]
  · rw [exec_setTime, setTimeRule, if_pos h]
  · rw [exec_setWindow, setWindowRule, dif_neg (Nat.not_lt.2 h)]
  · rw [exec_setWindow, setWindowRule_badField hw h]
  · rw [exec_setWindow, hw, setWindowRule_of_enable w he, if_pos ⟨hstart, hstop⟩]

/-! ### The stand-down latch -/

theorem writeStandDown_cascade (v : Bool) (s : State) :
    Cascade { s with inputs := { s.inputs with standDown := v } } (writeStandDown v s) :=
  (renight_moves (night s) .hold _).cascade

theorem siteHold_writeStandDown (v : Bool) (s : State) :
    siteHold (writeStandDown v s) = (s.inputs.holdIn.conditioned || v) := by
  rw [siteHold, (writeStandDown_cascade v s).inputs]

/-- Settles O25: the latch is written, and night follows it. -/
theorem standDownLatch : Obligations.StandDownLatch := by
  refine ⟨fun s => ⟨_, rfl, (writeStandDown_cascade true s).inputs, ?_, rfl, rfl⟩,
    fun s => ⟨_, rfl, (writeStandDown_cascade false s).inputs, ?_, rfl, rfl⟩, rfl⟩
  · exact (siteHold_writeStandDown true s).trans (Bool.or_true _)
  · exact (siteHold_writeStandDown false s).trans (Bool.or_false _)

/-! ### The input lines -/

/-- The moment from which a line's debounce timer counts: its start, or now where it starts now (R134). -/
def Line.countsFrom (l : Line) (now : Time) : Time := l.timer.getD now

/-- A line that is looked at shows another level than its conditioned one, for the debounce length (R134, R135). -/
def Line.Expires (l : Line) (now : Time) (len : Nat) : Prop :=
  l.present ≠ l.conditioned ∧ len ≤ (now - l.countsFrom now).toNat

/-- A line whose conditioned level becomes its present level (R134). -/
def Line.taken (l : Line) : Line := { l with conditioned := l.present, timer := none }

/-- A line after it was looked at (R134, R135). -/
def Line.rechecked (l : Line) (now : Time) (len : Nat) : Line :=
  if l.present = l.conditioned then { l with timer := none }
  else if len ≤ (now - l.countsFrom now).toNat then l.taken
  else { l with timer := some (l.countsFrom now) }

theorem Line.rechecked_of_agree {l : Line} (h : l.present = l.conditioned) (now : Time) (len : Nat) :
    l.rechecked now len = { l with timer := none } := if_pos h

theorem Line.rechecked_of_expires {l : Line} {now : Time} {len : Nat} (h : l.Expires now len) :
    l.rechecked now len = l.taken := (if_neg h.1).trans (if_pos h.2)

theorem Line.rechecked_of_waiting {l : Line} {now : Time} {len : Nat} (h : l.present ≠ l.conditioned)
    (hw : ¬ len ≤ (now - l.countsFrom now).toNat) : l.rechecked now len = { l with timer := some (l.countsFrom now) } :=
  (if_neg h).trans (if_neg hw)

theorem compare_of_agree {l : Line} (h : l.present = l.conditioned) (now : Time) :
    l.compare now = { l with timer := none } := if_pos (beq_iff_eq.2 h)

theorem compare_of_differ {l : Line} (h : l.present ≠ l.conditioned) (now : Time) :
    l.compare now = { l with timer := some (l.countsFrom now) } := by
  rw [Line.compare, if_neg (by simpa using h), Line.countsFrom]
  obtain ⟨activeLow, level, conditioned, timer⟩ := l
  cases timer <;> rfl

theorem line_setLine (i : Inputs) (which : InputLine) (l : Line) : (i.setLine which l).line which = l := by
  cases which <;> rfl

theorem setLine_setLine (i : Inputs) (which : InputLine) (l l' : Line) :
    (i.setLine which l).setLine which l' = i.setLine which l' := by
  cases which <;> rfl

theorem debounce_setLine (i : Inputs) (which : InputLine) (l : Line) : (i.setLine which l).debounce = i.debounce := by
  cases which <;> rfl

/-- The state with a line written. -/
def lineWritten (which : InputLine) (l : Line) (s : State) : State := { s with inputs := s.inputs.setLine which l }

theorem lineWritten_lineWritten (which : InputLine) (l l' : Line) (s : State) :
    lineWritten which l' (lineWritten which l s) = lineWritten which l' s := by
  simp only [lineWritten, setLine_setLine]

/-- What looks at the lines sees their conditioned levels only (R137, R140). -/
theorem night_lineWritten {which : InputLine} {l : Line} {s : State}
    (h : l.conditioned = (s.inputs.line which).conditioned) : night (lineWritten which l s) = night s :=
  night_of_line rfl (setLine_conditioned s.inputs which l h).1 (setLine_conditioned s.inputs which l h).2

theorem selectedBank_lineWritten {which : InputLine} {l : Line} {s : State}
    (h : l.conditioned = (s.inputs.line which).conditioned) :
    selectedBank (lineWritten which l s) = selectedBank s := by
  cases which with
  | holdIn => rfl
  | sourceIn =>
    have same : l.conditioned = s.inputs.sourceIn.conditioned := h
    simp only [selectedBank, lineWritten, Inputs.setLine, same]

/-- A line is written, and site hold and the selected bank follow. -/
def lineFollowed (which : InputLine) (l : Line) (s : State) : State :=
  rebank (selectedBank s) (renight (night s) .hold (lineWritten which l s))

theorem lineFollowed_cascade (which : InputLine) (l : Line) (s : State) :
    Cascade (lineWritten which l s) (lineFollowed which l s) :=
  Moves.cascade ((renight_moves _ _ _).trans (rebank_moves _ _))

/-- A write that leaves the conditioned level makes no difference to one that follows it. -/
theorem lineFollowed_lineWritten {which : InputLine} {l : Line} {s : State} (l' : Line)
    (h : l.conditioned = (s.inputs.line which).conditioned) :
    lineFollowed which l' (lineWritten which l s) = lineFollowed which l' s := by
  rw [lineFollowed, selectedBank_lineWritten h, night_lineWritten h, lineWritten_lineWritten]
  rfl

theorem debounceExpires_eq (which : InputLine) (s : State) :
    debounceExpires which s = lineFollowed which (s.inputs.line which).taken s := rfl

theorem debounceExpires_lineWritten {which : InputLine} {l : Line} {s : State}
    (h : l.conditioned = (s.inputs.line which).conditioned) :
    debounceExpires which (lineWritten which l s) = lineFollowed which l.taken s := by
  rw [debounceExpires_eq, lineFollowed_lineWritten _ h, lineWritten, line_setLine]

/-- What a line comes to when it is looked at. -/
abbrev lineRechecked (which : InputLine) (s : State) : Line :=
  (s.inputs.line which).rechecked s.now (debounceTicks s.inputs.debounce)

theorem recheckLine_eq (which : InputLine) (s : State) : recheckLine which s =
    if debounceDue (lineWritten which ((s.inputs.line which).compare s.now) s) which then
      debounceExpires which (lineWritten which ((s.inputs.line which).compare s.now) s)
    else lineWritten which ((s.inputs.line which).compare s.now) s := rfl

theorem debounceDue_lineWritten (which : InputLine) (l : Line) (s : State) :
    debounceDue (lineWritten which l s) which = due s l.timer (debounceTicks s.inputs.debounce) := by
  rw [debounceDue, lineWritten, line_setLine, debounce_setLine]
  rfl

theorem recheckLine_of_not_expires {which : InputLine} {s : State}
    (h : ¬ (s.inputs.line which).Expires s.now (debounceTicks s.inputs.debounce)) :
    recheckLine which s = lineWritten which (lineRechecked which s) s := by
  rw [recheckLine_eq, debounceDue_lineWritten]
  by_cases agree : (s.inputs.line which).present = (s.inputs.line which).conditioned
  · rw [compare_of_agree agree, lineRechecked, Line.rechecked_of_agree agree]
    rfl
  · have waiting : ¬ debounceTicks s.inputs.debounce ≤ (s.now - (s.inputs.line which).countsFrom s.now).toNat :=
      fun hlen => h ⟨agree, hlen⟩
    rw [compare_of_differ agree, lineRechecked, Line.rechecked_of_waiting agree waiting]
    exact if_neg fun expired => waiting (of_decide_eq_true expired)

theorem recheckLine_of_expires {which : InputLine} {s : State}
    (h : (s.inputs.line which).Expires s.now (debounceTicks s.inputs.debounce)) :
    recheckLine which s = lineFollowed which (lineRechecked which s) s := by
  have expired : due s (some ((s.inputs.line which).countsFrom s.now)) (debounceTicks s.inputs.debounce) = true :=
    decide_eq_true h.2
  rw [recheckLine_eq, debounceDue_lineWritten, lineRechecked, Line.rechecked_of_expires h, compare_of_differ h.1,
    if_pos expired, debounceExpires_lineWritten (by rfl)]
  rfl

/-- Whether a line expires or not, the rest is what site hold and the selected bank bring. -/
theorem recheckLine_cascade (which : InputLine) (s : State) :
    Cascade (lineWritten which (lineRechecked which s) s) (recheckLine which s) := by
  by_cases h : (s.inputs.line which).Expires s.now (debounceTicks s.inputs.debounce)
  · rw [recheckLine_of_expires h]
    exact lineFollowed_cascade which _ s
  · rw [recheckLine_of_not_expires h]
    exact .refl _

/-! ### SET_INPUTS -/

theorem exec_setInputs (hold source debounce : Nat) (s : State) :
    exec (.setInputs hold source debounce) s = .next (respond (setInputsRule hold source debounce s)) := rfl

theorem debounceOf_eq_none {code : Nat} (h : 3 < code) : debounceOf code = none := dif_neg (by omega)

theorem debounceOf_val (d : Fin 4) : debounceOf d.val = some d := dif_pos d.isLt

/-- The state with the polarities and the debounce length written, before the lines are looked at (R135). -/
def inputsWritten (hold source : Bool) (d : Fin 4) (s : State) : State :=
  { s with
    inputs := { s.inputs with
      holdIn := { s.inputs.holdIn with activeLow := hold }
      sourceIn := { s.inputs.sourceIn with activeLow := source }
      debounce := d } }

theorem setInputsRule_badField {hold source debounce : Nat} (h : 1 < hold ∨ 1 < source ∨ 3 < debounce) (s : State) :
    setInputsRule hold source debounce s = refuse .badField s := by
  rw [setInputsRule]
  split
  · rename_i hp sp d hhold hsource hdebounce
    rcases h with h | h | h
    · rw [flagOf_eq_none h] at hhold; cases hhold
    · rw [flagOf_eq_none h] at hsource; cases hsource
    · rw [debounceOf_eq_none h] at hdebounce; cases hdebounce
  · rfl

theorem setInputsRule_taken {hold source : Nat} (hh : hold ≤ 1) (hs : source ≤ 1) (d : Fin 4) (s : State) :
    setInputsRule hold source d s =
      answerOk (recheckLine .sourceIn (recheckLine .holdIn (inputsWritten (hold == 1) (source == 1) d s))) := by
  simp only [setInputsRule, flagOf_eq hh, flagOf_eq hs, debounceOf_val]
  rfl

theorem Cascade.lineWritten {s t : State} (h : Cascade s t) (which : InputLine) (l : Line) :
    Cascade (lineWritten which l s) (lineWritten which l t) where
  clock := h.clock
  inputs := congrArg (fun i => Inputs.setLine i which l) h.inputs
  banks := h.banks
  alerts := h.alerts
  mgmt := h.mgmt
  envReads := h.envReads
  pending := h.pending
  carriers := h.carriers
  rails := h.rails
  ports := h.ports

/-- Both lines looked at: each comes to what it comes to alone. -/
theorem recheckLines_cascade (s : State) : Cascade
    (lineWritten .sourceIn (lineRechecked .sourceIn s) (lineWritten .holdIn (lineRechecked .holdIn s) s))
    (recheckLine .sourceIn (recheckLine .holdIn s)) := by
  have held := recheckLine_cascade .holdIn s
  have same : lineRechecked .sourceIn (recheckLine .holdIn s) = lineRechecked .sourceIn s := by
    rw [lineRechecked, held.inputs, held.now]
    rfl
  have sourced := recheckLine_cascade .sourceIn (recheckLine .holdIn s)
  rw [same] at sourced
  exact (held.lineWritten .sourceIn _).trans sourced

theorem recheckLines_of_not_expires {s : State}
    (hold : ¬ s.inputs.holdIn.Expires s.now (debounceTicks s.inputs.debounce))
    (source : ¬ s.inputs.sourceIn.Expires s.now (debounceTicks s.inputs.debounce)) :
    recheckLine .sourceIn (recheckLine .holdIn s) =
      lineWritten .sourceIn (lineRechecked .sourceIn s) (lineWritten .holdIn (lineRechecked .holdIn s) s) := by
  rw [recheckLine_of_not_expires (which := .holdIn) hold]
  exact recheckLine_of_not_expires (s := lineWritten .holdIn (lineRechecked .holdIn s) s) source

/-! ### Level changes -/

/-- A line at a level (R134). -/
def Line.atLevel (l : Line) (level : Bool) : Line := { l with level := level }

theorem exec_inputLevelChange (which : InputLine) (level : Bool) (s : State) :
    exec (.inputLevelChange which level) s =
      .next (recheckLine which (lineWritten which ((s.inputs.line which).atLevel level) s)) := rfl

theorem line_lineWritten (which : InputLine) (l : Line) (s : State) : (lineWritten which l s).inputs.line which = l :=
  line_setLine s.inputs which l

theorem debounce_lineWritten (which : InputLine) (l : Line) (s : State) :
    (lineWritten which l s).inputs.debounce = s.inputs.debounce :=
  debounce_setLine s.inputs which l

theorem now_lineWritten (which : InputLine) (l : Line) (s : State) : (lineWritten which l s).now = s.now := rfl

theorem exec_inputLevelChange_of_not_expires {which : InputLine} {level : Bool} {s : State}
    (h : ¬ ((s.inputs.line which).atLevel level).Expires s.now (debounceTicks s.inputs.debounce)) :
    exec (.inputLevelChange which level) s = .next (lineWritten which
      (((s.inputs.line which).atLevel level).rechecked s.now (debounceTicks s.inputs.debounce)) s) := by
  rw [exec_inputLevelChange, recheckLine_of_not_expires, lineRechecked, line_lineWritten, debounce_lineWritten,
    now_lineWritten, lineWritten_lineWritten]
  rwa [line_lineWritten, debounce_lineWritten]

theorem exec_inputLevelChange_of_expires {which : InputLine} {level : Bool} {s : State}
    (h : ((s.inputs.line which).atLevel level).Expires s.now (debounceTicks s.inputs.debounce)) :
    exec (.inputLevelChange which level) s =
      .next (lineFollowed which ((s.inputs.line which).atLevel level).taken s) := by
  rw [exec_inputLevelChange, recheckLine_of_expires, lineRechecked, line_lineWritten, debounce_lineWritten,
    now_lineWritten, lineFollowed_lineWritten _ (by rfl), Line.rechecked_of_expires h]
  rwa [line_lineWritten, debounce_lineWritten]

theorem debounceTicks_pos {d : Fin 4} (h : d ≠ 0) : 0 < debounceTicks d := by
  fin_cases d
  · exact absurd rfl h
  all_goals decide

theorem elapsedSince_now (s : State) : elapsedSince s s.now = 0 := by
  rw [elapsedSince, BitVec.sub_self]
  rfl

section

variable {which : InputLine} {level : Bool} {s : State}

theorem inputLevelChange_of_agree
    (h : ((s.inputs.line which).atLevel level).present = (s.inputs.line which).conditioned) :
    exec (.inputLevelChange which level) s =
      .next (lineWritten which { s.inputs.line which with level := level, timer := none } s) := by
  rw [exec_inputLevelChange_of_not_expires fun expires => expires.1 h, Line.rechecked_of_agree h]
  rfl

/-- The debounce timer starts, or runs on. -/
theorem inputLevelChange_of_waiting
    (h : ((s.inputs.line which).atLevel level).present ≠ (s.inputs.line which).conditioned)
    (hw : elapsedSince s ((s.inputs.line which).countsFrom s.now) < debounceTicks s.inputs.debounce) :
    exec (.inputLevelChange which level) s = .next (lineWritten which
      { s.inputs.line which with level := level, timer := some ((s.inputs.line which).countsFrom s.now) } s) := by
  have waiting := Nat.not_le.2 hw
  have stays : ¬ ((s.inputs.line which).atLevel level).Expires s.now (debounceTicks s.inputs.debounce) :=
    fun expires => waiting expires.2
  rw [exec_inputLevelChange_of_not_expires stays, Line.rechecked_of_waiting h waiting]
  rfl

/-- With a debounce length of 0 the conditioned level follows at once. -/
theorem inputLevelChange_of_instant
    (h : ((s.inputs.line which).atLevel level).present ≠ (s.inputs.line which).conditioned)
    (hd : s.inputs.debounce = 0) : exec (.inputLevelChange which level) s = .next (lineFollowed which
      { s.inputs.line which with
        level := level, timer := none, conditioned := !(s.inputs.line which).conditioned } s) := by
  rw [exec_inputLevelChange_of_expires ⟨h, by rw [hd]; exact Nat.zero_le _⟩, Line.taken, Bool.eq_not_of_ne h]
  rfl

end

/-- Settles O28: the level changes by what the debounce timer does, and SET_INPUTS line by line. -/
theorem lineConditioning : Obligations.LineConditioning := by
  refine ⟨fun which level s => ?_, fun which s => ⟨fun h => ?_, fun h => ?_⟩,
    fun hold source debounce s => ⟨fun h => ?_, fun d hh hs hd => ?_⟩⟩
  · intro l differs now'
    have differ (h : differs = true) : (l.atLevel level).present ≠ l.conditioned := bne_iff_ne.1 h
    have counts {start : Option Time} (h : l.timer = start) : l.countsFrom s.now = start.getD s.now := by
      rw [Line.countsFrom, h]
    refine ⟨fun h => inputLevelChange_of_agree (bne_eq_false_iff_eq.1 h), fun h stopped long => ?_,
      fun h start runs short => ?_, fun h _ instant => ?_⟩
    · refine (inputLevelChange_of_waiting (differ h) ?_).trans (by rw [counts stopped]; rfl)
      rw [counts stopped, Option.getD_none, elapsedSince_now]
      exact debounceTicks_pos long
    · refine (inputLevelChange_of_waiting (differ h) ?_).trans (by rw [counts runs]; rfl)
      rwa [counts runs]
    · have cascade := lineFollowed_cascade which
        { l with level := level, timer := none, conditioned := !l.conditioned } s
      refine ⟨_, inputLevelChange_of_instant (differ h) instant, cascade.inputs, ?_⟩
      rw [cascade.inputs]
      rfl
  · exact congrArg Host.Outcome.next (if_neg (Bool.eq_false_iff.1 h))
  · exact congrArg Host.Outcome.next (if_pos h)
  · rw [exec_setInputs, setInputsRule_badField h]
  · intro present start expires after u
    refine ⟨_, ?_, recheckLines_cascade (inputsWritten (hold == 1) (source == 1) d s),
      recheckLines_of_not_expires (s := inputsWritten (hold == 1) (source == 1) d s)⟩
    rw [exec_setInputs, hd, setInputsRule_taken hh hs]

end Sys2Proof.Machine
end
